-- ==== Sys2Proof/Word.lean ====
section
/-! DEFINITION. The two bit-vector types of the device: the 32-bit word every register transfer and
every ring element has (R6 `WORD`, R8), and the byte of a frame (R10). -/

namespace Sys2Proof

/-- A register value or ring element: an unsigned 32-bit word (R8). -/
abbrev Word := BitVec 32

/-- One byte of a frame (R10, R115). -/
abbrev Byte := BitVec 8

end Sys2Proof
end

