-- ==== Sys2Proof/Config.lean ====
section
/-! DEFINITION. What is fixed once at construction and never changes (R7, R14, R148): the parameters the
source leaves open. The machine's own parameters are one OPAQUE constant, so nothing can be proved of
them but the constraints R7 states (log 3). -/

namespace Sys2Proof.Config

/-- The order in which a stored word gives its four frame bytes (R7 `FRAME_BYTE_ORDER`, R115, D7). -/
inductive FrameByteOrder where
  | msbFirst
  | lsbFirst
  deriving DecidableEq, Repr, Inhabited

/-- The open parameters of R7, with the constraints R7 puts on them. A field's default value is the
default configuration's, which the spec uses for its test vectors only (D1, D7, D8, D9). -/
structure Params where
  /-- `B`, the base address of the memory map (D12). -/
  base : Nat
  /-- `MAC_ADDRESS`, 48 bits from general knowledge; read by no rule (R148, D24). -/
  macAddress : BitVec 48
  /-- `REVISION`, what Host slot 15 reads (R80, D12). -/
  revision : Word
  /-- `BIT_RPURE` (D1). -/
  bitRpure : Fin 32 := 31
  /-- `BIT_TPOE` (D1). -/
  bitTpoe : Fin 32 := 28
  /-- `BIT_TC` (D1). -/
  bitTc : Fin 32 := 27
  /-- `FIFO_INT_FIELD`, the FIFO "defined interrupt-bit field" (D1). -/
  fifoIntField : Word := 0xFC000000#32
  /-- `FRAME_BYTE_ORDER` (D7). -/
  frameByteOrder : FrameByteOrder := .msbFirst
  /-- `SHADOW_TRACKS_WRITES` (R25, D8). -/
  shadowTracksWrites : Bool := false
  /-- `VLAN_WRITE_STORES` (R79, D9). -/
  vlanWriteStores : Bool := true
  /-- `TXD_INIT`, by ring position (R27, D11). -/
  txdInit : Nat → Word
  /-- `TXL_INIT`, by ring position (R27, D11). -/
  txlInit : Nat → Word
  /-- `RXD_INIT`, by ring position (R27, D11). -/
  rxdInit : Nat → Word
  /-- `RXL_INIT`, by ring position (R27, D11). -/
  rxlInit : Nat → Word
  /-- R7: "three distinct bit positions". -/
  bits_distinct : bitRpure ≠ bitTpoe ∧ bitRpure ≠ bitTc ∧ bitTpoe ≠ bitTc := by decide
  /-- R7: "each of the three bits is set in `FIFO_INT_FIELD`". -/
  bits_in_field : fifoIntField.getLsbD bitRpure.val = true ∧ fifoIntField.getLsbD bitTpoe.val = true ∧
    fifoIntField.getLsbD bitTc.val = true := by decide
  deriving Inhabited

/-- The parameters this device was constructed with: unknown, constrained only as R7 says. -/
opaque params : Params

end Sys2Proof.Config
end

