-- ==== Sys2Proof/Syntax.lean ====
section
/-! DEFINITION. The operations the host can present (R3, R46, R51): one constructor of `Instr` for each row
of the opcode table, the operation triple they are decoded from, and a request as the host issues it. -/

namespace Sys2Proof

/-- A register bank (R2, R12, R30). -/
inductive Bank where
  | host
  | mac
  | fifo
  deriving DecidableEq, Repr

/-- The direction of a bus access (R46 `kind` 00 and 01). -/
inductive Dir where
  | rd
  | wr
  deriving DecidableEq, Repr

/-- One constructor per row of the opcode table (R51), in the table's order. A bus write carries its
32-bit value `v` (R49), RX_DELIVER the bytes of the frame (R123). -/
inductive Instr where
  /-- RD.HOST.MDIO_CTRL (R70), descriptor 0x0000. -/
  | rdHostMdioCtrl
  /-- RD.HOST.MDIO_DATA (R72), descriptor 0x0004. -/
  | rdHostMdioData
  /-- RD.HOST.IRQ_MASK (R74), descriptor 0x0008. -/
  | rdHostIrqMask
  /-- RD.HOST.IRQ_FLAGS (R76), descriptor 0x000C. -/
  | rdHostIrqFlags
  /-- RD.HOST.VLAN_MASK (R78), descriptor 0x0010. -/
  | rdHostVlanMask
  /-- RD.HOST.UNK5 (R82), descriptor 0x0014. -/
  | rdHostUnk5
  /-- RD.HOST.UNK6 (R82), descriptor 0x0018. -/
  | rdHostUnk6
  /-- RD.HOST.UNK7 (R82), descriptor 0x001C. -/
  | rdHostUnk7
  /-- RD.HOST.UNK8 (R82), descriptor 0x0020. -/
  | rdHostUnk8
  /-- RD.HOST.UNK9 (R82), descriptor 0x0024. -/
  | rdHostUnk9
  /-- RD.HOST.UNK10 (R82), descriptor 0x0028. -/
  | rdHostUnk10
  /-- RD.HOST.UNK11 (R82), descriptor 0x002C. -/
  | rdHostUnk11
  /-- RD.HOST.UNK12 (R82), descriptor 0x0030. -/
  | rdHostUnk12
  /-- RD.HOST.UNK13 (R82), descriptor 0x0034. -/
  | rdHostUnk13
  /-- RD.HOST.UNK14 (R82), descriptor 0x0038. -/
  | rdHostUnk14
  /-- RD.HOST.REVISION (R80), descriptor 0x003C. -/
  | rdHostRevision
  /-- RD.MAC.UNK0 (R86), descriptor 0x1000. -/
  | rdMacUnk0
  /-- RD.MAC.RX_CONFIG (R84), descriptor 0x1004. -/
  | rdMacRxConfig
  /-- RD.MAC.TX_CONFIG (R84), descriptor 0x1008. -/
  | rdMacTxConfig
  /-- RD.MAC.UNK3 (R86), descriptor 0x100C. -/
  | rdMacUnk3
  /-- RD.MAC.SPEED_CONFIG (R84), descriptor 0x1010. -/
  | rdMacSpeedConfig
  /-- RD.MAC.MDIO_CONFIG (R84), descriptor 0x1014. -/
  | rdMacMdioConfig
  /-- RD.MAC.UNK6 (R86), descriptor 0x1018. -/
  | rdMacUnk6
  /-- RD.MAC.UNK7 (R86), descriptor 0x101C. -/
  | rdMacUnk7
  /-- RD.MAC.UNK8 (R86), descriptor 0x1020. -/
  | rdMacUnk8
  /-- RD.MAC.UNK9 (R86), descriptor 0x1024. -/
  | rdMacUnk9
  /-- RD.MAC.UNK10 (R86), descriptor 0x1028. -/
  | rdMacUnk10
  /-- RD.MAC.UNK11 (R86), descriptor 0x102C. -/
  | rdMacUnk11
  /-- RD.MAC.UNK12 (R86), descriptor 0x1030. -/
  | rdMacUnk12
  /-- RD.MAC.UNK13 (R86), descriptor 0x1034. -/
  | rdMacUnk13
  /-- RD.MAC.UNK14 (R86), descriptor 0x1038. -/
  | rdMacUnk14
  /-- RD.MAC.UNK15 (R86), descriptor 0x103C. -/
  | rdMacUnk15
  /-- RD.FIFO.INT_STATUS (R89), descriptor 0x2000. -/
  | rdFifoIntStatus
  /-- RD.FIFO.INT_ENABLE (R91), descriptor 0x2004. -/
  | rdFifoIntEnable
  /-- RD.FIFO.TX_RESET (R93), descriptor 0x2008. -/
  | rdFifoTxReset
  /-- RD.FIFO.TX_VACANCY (R95), descriptor 0x200C. -/
  | rdFifoTxVacancy
  /-- RD.FIFO.TX_DATA (R97), descriptor 0x2010. -/
  | rdFifoTxData
  /-- RD.FIFO.TX_LENGTH (R99), descriptor 0x2014. -/
  | rdFifoTxLength
  /-- RD.FIFO.RX_RESET (R101), descriptor 0x2018. -/
  | rdFifoRxReset
  /-- RD.FIFO.RX_OCCUPANCY (R103), descriptor 0x201C. -/
  | rdFifoRxOccupancy
  /-- RD.FIFO.RX_DATA (R105), descriptor 0x2020. -/
  | rdFifoRxData
  /-- RD.FIFO.RX_LENGTH (R107), descriptor 0x2024. -/
  | rdFifoRxLength
  /-- RD.FIFO.UNK10 (R109), descriptor 0x2028. -/
  | rdFifoUnk10
  /-- RD.FIFO.UNK11 (R109), descriptor 0x202C. -/
  | rdFifoUnk11
  /-- RD.FIFO.UNK12 (R109), descriptor 0x2030. -/
  | rdFifoUnk12
  /-- RD.FIFO.UNK13 (R109), descriptor 0x2034. -/
  | rdFifoUnk13
  /-- RD.FIFO.UNK14 (R109), descriptor 0x2038. -/
  | rdFifoUnk14
  /-- RD.FIFO.UNK15 (R109), descriptor 0x203C. -/
  | rdFifoUnk15
  /-- WR.HOST.MDIO_CTRL (R71), descriptor 0x4000. -/
  | wrHostMdioCtrl (v : Word)
  /-- WR.HOST.MDIO_DATA (R73), descriptor 0x4004. -/
  | wrHostMdioData (v : Word)
  /-- WR.HOST.IRQ_MASK (R75), descriptor 0x4008. -/
  | wrHostIrqMask (v : Word)
  /-- WR.HOST.IRQ_FLAGS (R77), descriptor 0x400C. -/
  | wrHostIrqFlags (v : Word)
  /-- WR.HOST.VLAN_MASK (R79), descriptor 0x4010. -/
  | wrHostVlanMask (v : Word)
  /-- WR.HOST.UNK5 (R83), descriptor 0x4014. -/
  | wrHostUnk5 (v : Word)
  /-- WR.HOST.UNK6 (R83), descriptor 0x4018. -/
  | wrHostUnk6 (v : Word)
  /-- WR.HOST.UNK7 (R83), descriptor 0x401C. -/
  | wrHostUnk7 (v : Word)
  /-- WR.HOST.UNK8 (R83), descriptor 0x4020. -/
  | wrHostUnk8 (v : Word)
  /-- WR.HOST.UNK9 (R83), descriptor 0x4024. -/
  | wrHostUnk9 (v : Word)
  /-- WR.HOST.UNK10 (R83), descriptor 0x4028. -/
  | wrHostUnk10 (v : Word)
  /-- WR.HOST.UNK11 (R83), descriptor 0x402C. -/
  | wrHostUnk11 (v : Word)
  /-- WR.HOST.UNK12 (R83), descriptor 0x4030. -/
  | wrHostUnk12 (v : Word)
  /-- WR.HOST.UNK13 (R83), descriptor 0x4034. -/
  | wrHostUnk13 (v : Word)
  /-- WR.HOST.UNK14 (R83), descriptor 0x4038. -/
  | wrHostUnk14 (v : Word)
  /-- WR.HOST.REVISION (R81), descriptor 0x403C. -/
  | wrHostRevision (v : Word)
  /-- WR.MAC.UNK0 (R87), descriptor 0x5000. -/
  | wrMacUnk0 (v : Word)
  /-- WR.MAC.RX_CONFIG (R85), descriptor 0x5004. -/
  | wrMacRxConfig (v : Word)
  /-- WR.MAC.TX_CONFIG (R85), descriptor 0x5008. -/
  | wrMacTxConfig (v : Word)
  /-- WR.MAC.UNK3 (R87), descriptor 0x500C. -/
  | wrMacUnk3 (v : Word)
  /-- WR.MAC.SPEED_CONFIG (R85), descriptor 0x5010. -/
  | wrMacSpeedConfig (v : Word)
  /-- WR.MAC.MDIO_CONFIG (R85), descriptor 0x5014. -/
  | wrMacMdioConfig (v : Word)
  /-- WR.MAC.UNK6 (R87), descriptor 0x5018. -/
  | wrMacUnk6 (v : Word)
  /-- WR.MAC.UNK7 (R87), descriptor 0x501C. -/
  | wrMacUnk7 (v : Word)
  /-- WR.MAC.UNK8 (R87), descriptor 0x5020. -/
  | wrMacUnk8 (v : Word)
  /-- WR.MAC.UNK9 (R87), descriptor 0x5024. -/
  | wrMacUnk9 (v : Word)
  /-- WR.MAC.UNK10 (R87), descriptor 0x5028. -/
  | wrMacUnk10 (v : Word)
  /-- WR.MAC.UNK11 (R87), descriptor 0x502C. -/
  | wrMacUnk11 (v : Word)
  /-- WR.MAC.UNK12 (R87), descriptor 0x5030. -/
  | wrMacUnk12 (v : Word)
  /-- WR.MAC.UNK13 (R87), descriptor 0x5034. -/
  | wrMacUnk13 (v : Word)
  /-- WR.MAC.UNK14 (R87), descriptor 0x5038. -/
  | wrMacUnk14 (v : Word)
  /-- WR.MAC.UNK15 (R87), descriptor 0x503C. -/
  | wrMacUnk15 (v : Word)
  /-- WR.FIFO.INT_STATUS (R90), descriptor 0x6000. -/
  | wrFifoIntStatus (v : Word)
  /-- WR.FIFO.INT_ENABLE (R92), descriptor 0x6004. -/
  | wrFifoIntEnable (v : Word)
  /-- WR.FIFO.TX_RESET (R94), descriptor 0x6008. -/
  | wrFifoTxReset (v : Word)
  /-- WR.FIFO.TX_VACANCY (R96), descriptor 0x600C. -/
  | wrFifoTxVacancy (v : Word)
  /-- WR.FIFO.TX_DATA (R98), descriptor 0x6010. -/
  | wrFifoTxData (v : Word)
  /-- WR.FIFO.TX_LENGTH (R100), descriptor 0x6014. -/
  | wrFifoTxLength (v : Word)
  /-- WR.FIFO.RX_RESET (R102), descriptor 0x6018. -/
  | wrFifoRxReset (v : Word)
  /-- WR.FIFO.RX_OCCUPANCY (R104), descriptor 0x601C. -/
  | wrFifoRxOccupancy (v : Word)
  /-- WR.FIFO.RX_DATA (R106), descriptor 0x6020. -/
  | wrFifoRxData (v : Word)
  /-- WR.FIFO.RX_LENGTH (R108), descriptor 0x6024. -/
  | wrFifoRxLength (v : Word)
  /-- WR.FIFO.UNK10 (R110), descriptor 0x6028. -/
  | wrFifoUnk10 (v : Word)
  /-- WR.FIFO.UNK11 (R110), descriptor 0x602C. -/
  | wrFifoUnk11 (v : Word)
  /-- WR.FIFO.UNK12 (R110), descriptor 0x6030. -/
  | wrFifoUnk12 (v : Word)
  /-- WR.FIFO.UNK13 (R110), descriptor 0x6034. -/
  | wrFifoUnk13 (v : Word)
  /-- WR.FIFO.UNK14 (R110), descriptor 0x6038. -/
  | wrFifoUnk14 (v : Word)
  /-- WR.FIFO.UNK15 (R110), descriptor 0x603C. -/
  | wrFifoUnk15 (v : Word)
  /-- PORT.RX_CAN_ACCEPT (R122), descriptor 0x8000. -/
  | portRxCanAccept
  /-- PORT.RX_DELIVER (R123), descriptor 0x8001. -/
  | portRxDeliver (frame : List Byte)
  deriving DecidableEq, Repr

/-- An operation as presented to the device (R46): the 16-bit descriptor, the bus width in bytes (bus
operations only) and the payload: the write value (bus writes only) and the delivered frame
(RX_DELIVER only). What the descriptor does not use is ignored (log 5). -/
structure Operation where
  descriptor : BitVec 16
  size : Nat
  value : Word
  frame : List Byte
  deriving DecidableEq, Repr

/-- A request of the host: a bus access at a byte address of its own address space (R30, R46), or an
operation already in descriptor form. -/
inductive Request where
  | bus (dir : Dir) (addr : Nat) (size : Nat) (value : Word)
  | operation (op : Operation)
  deriving DecidableEq, Repr

end Sys2Proof
end

