-- ==== Sys2Proof/WellFormed.lean ====
section
/-! DEFINITION. Which operations the device admits (R34 to R36, R53, R125), said as arithmetic on the
descriptor's number, apart from the decoder. Every term of `Instr` is well formed: its operands are
typed by their width and the spec bounds none further. -/

namespace Sys2Proof

/-- `kind` is not the reserved code 11 (R46, R53). -/
def Operation.kindDefined (op : Operation) : Bool :=
  op.descriptor.toNat / 0x4000 != 3

/-- The operation is a bus access: `kind` is 00 or 01 (R46). -/
def Operation.isBus (op : Operation) : Bool :=
  op.descriptor.toNat / 0x4000 < 2

/-- A bus access moves 4 bytes (R34). -/
def Operation.widthAdmitted (op : Operation) : Bool :=
  !op.isBus || op.size == 4

/-- A bus access names one of the three banks (R36, R46). -/
def Operation.bankExists (op : Operation) : Bool :=
  !op.isBus || op.descriptor.toNat % 0x4000 / 0x1000 != 3

/-- A bus access lies in the first 64 bytes of its bank (R30, R36). -/
def Operation.insideWindow (op : Operation) : Bool :=
  !op.isBus || op.descriptor.toNat % 0x1000 < 0x40

/-- A bus access is word aligned (R35). -/
def Operation.aligned (op : Operation) : Bool :=
  !op.isBus || op.descriptor.toNat % 4 == 0

/-- A port operation is one of the two that exist (R125). -/
def Operation.portDefined (op : Operation) : Bool :=
  op.descriptor.toNat / 0x4000 != 2 || op.descriptor.toNat % 0x4000 < 2

/-- The operation is inside the device's contract: none of the refusals of R53 applies. -/
def Operation.wellFormed (op : Operation) : Bool :=
  op.kindDefined && op.widthAdmitted && op.bankExists && op.insideWindow && op.aligned && op.portDefined

end Sys2Proof
end

