-- ==== Sys2Proof/Decode.lean ====
section
/-! DEFINITION. From a presented operation to an instruction, or the reason it is refused (R46, R47, R51,
R53, R125), from a bus address to its descriptor (R36, R46), and the encoder back. -/

namespace Sys2Proof

/-- Why an operation is outside the device's contract (R47, R53). -/
inductive Reject where
  | reservedKind
  | narrowOrWideAccess
  | outsideWindow
  | misalignedAccess
  | reservedPortOp
  deriving DecidableEq, Repr

/-- `A[15:14]` (R46). -/
def kindField (A : BitVec 16) : BitVec 2 := A.extractLsb' 14 2

/-- `A[13:12]` (R46). -/
def bankField (A : BitVec 16) : BitVec 2 := A.extractLsb' 12 2

/-- `A[11:6]` (R46). -/
def winField (A : BitVec 16) : BitVec 6 := A.extractLsb' 6 6

/-- `A[5:2]` (R31, R46). -/
def slotField (A : BitVec 16) : BitVec 4 := A.extractLsb' 2 4

/-- `A[1:0]` (R46). -/
def alignField (A : BitVec 16) : BitVec 2 := A.extractLsb' 0 2

/-- `A[13:4]` of a port operation (R46). -/
def zeroField (A : BitVec 16) : BitVec 10 := A.extractLsb' 4 10

/-- `A[3:0]` of a port operation (R46). -/
def portField (A : BitVec 16) : BitVec 4 := A.extractLsb' 0 4

/-- Bus reads of the HOST bank by slot (R51). -/
def hostReads : Vector Instr 16 := #v[
    .rdHostMdioCtrl, .rdHostMdioData, .rdHostIrqMask, .rdHostIrqFlags,
    .rdHostVlanMask, .rdHostUnk5, .rdHostUnk6, .rdHostUnk7,
    .rdHostUnk8, .rdHostUnk9, .rdHostUnk10, .rdHostUnk11,
    .rdHostUnk12, .rdHostUnk13, .rdHostUnk14, .rdHostRevision]

/-- Bus writes of the HOST bank by slot (R51). -/
def hostWrites (v : Word) : Vector Instr 16 := #v[
    .wrHostMdioCtrl v, .wrHostMdioData v, .wrHostIrqMask v, .wrHostIrqFlags v,
    .wrHostVlanMask v, .wrHostUnk5 v, .wrHostUnk6 v, .wrHostUnk7 v,
    .wrHostUnk8 v, .wrHostUnk9 v, .wrHostUnk10 v, .wrHostUnk11 v,
    .wrHostUnk12 v, .wrHostUnk13 v, .wrHostUnk14 v, .wrHostRevision v]

/-- Bus reads of the MAC bank by slot (R51). -/
def macReads : Vector Instr 16 := #v[
    .rdMacUnk0, .rdMacRxConfig, .rdMacTxConfig, .rdMacUnk3,
    .rdMacSpeedConfig, .rdMacMdioConfig, .rdMacUnk6, .rdMacUnk7,
    .rdMacUnk8, .rdMacUnk9, .rdMacUnk10, .rdMacUnk11,
    .rdMacUnk12, .rdMacUnk13, .rdMacUnk14, .rdMacUnk15]

/-- Bus writes of the MAC bank by slot (R51). -/
def macWrites (v : Word) : Vector Instr 16 := #v[
    .wrMacUnk0 v, .wrMacRxConfig v, .wrMacTxConfig v, .wrMacUnk3 v,
    .wrMacSpeedConfig v, .wrMacMdioConfig v, .wrMacUnk6 v, .wrMacUnk7 v,
    .wrMacUnk8 v, .wrMacUnk9 v, .wrMacUnk10 v, .wrMacUnk11 v,
    .wrMacUnk12 v, .wrMacUnk13 v, .wrMacUnk14 v, .wrMacUnk15 v]

/-- Bus reads of the FIFO bank by slot (R51). -/
def fifoReads : Vector Instr 16 := #v[
    .rdFifoIntStatus, .rdFifoIntEnable, .rdFifoTxReset, .rdFifoTxVacancy,
    .rdFifoTxData, .rdFifoTxLength, .rdFifoRxReset, .rdFifoRxOccupancy,
    .rdFifoRxData, .rdFifoRxLength, .rdFifoUnk10, .rdFifoUnk11,
    .rdFifoUnk12, .rdFifoUnk13, .rdFifoUnk14, .rdFifoUnk15]

/-- Bus writes of the FIFO bank by slot (R51). -/
def fifoWrites (v : Word) : Vector Instr 16 := #v[
    .wrFifoIntStatus v, .wrFifoIntEnable v, .wrFifoTxReset v, .wrFifoTxVacancy v,
    .wrFifoTxData v, .wrFifoTxLength v, .wrFifoRxReset v, .wrFifoRxOccupancy v,
    .wrFifoRxData v, .wrFifoRxLength v, .wrFifoUnk10 v, .wrFifoUnk11 v,
    .wrFifoUnk12 v, .wrFifoUnk13 v, .wrFifoUnk14 v, .wrFifoUnk15 v]

/-- The bank a bus access selects; code 11 selects none (R46). -/
def selectedBank (code : BitVec 2) : Option Bank :=
  if code = 0 then some .host else if code = 1 then some .mac else if code = 2 then some .fifo else none

/-- The row of the opcode table selected by direction, bank and slot (R51). -/
def tableRow (dir : Dir) (bank : Bank) (slot : BitVec 4) (v : Word) : Instr :=
  match dir, bank with
  | .rd, .host => hostReads.get slot.toFin
  | .rd, .mac => macReads.get slot.toFin
  | .rd, .fifo => fifoReads.get slot.toFin
  | .wr, .host => (hostWrites v).get slot.toFin
  | .wr, .mac => (macWrites v).get slot.toFin
  | .wr, .fifo => (fifoWrites v).get slot.toFin

/-- The checks of R47 on a bus access, in its order, then the table's row. -/
def decodeBus (dir : Dir) (op : Operation) : Except Reject Instr :=
  if op.size ≠ 4 then .error .narrowOrWideAccess
  else
    match selectedBank (bankField op.descriptor) with
    | none => .error .outsideWindow
    | some bank =>
      if winField op.descriptor ≠ 0 then .error .outsideWindow
      else if alignField op.descriptor ≠ 0 then .error .misalignedAccess
      else .ok (tableRow dir bank (slotField op.descriptor) op.value)

/-- The checks of R47 on a port operation (R122, R123, R125). -/
def decodePort (op : Operation) : Except Reject Instr :=
  if zeroField op.descriptor ≠ 0 then .error .reservedPortOp
  else if portField op.descriptor = 0 then .ok .portRxCanAccept
  else if portField op.descriptor = 1 then .ok (.portRxDeliver op.frame)
  else .error .reservedPortOp

/-- The decoder, total on every operation (R47, R56). -/
def decode (op : Operation) : Except Reject Instr :=
  if kindField op.descriptor = 3 then .error .reservedKind
  else if kindField op.descriptor = 0 then decodeBus .rd op
  else if kindField op.descriptor = 1 then decodeBus .wr op
  else decodePort op

/-- The descriptor of a bus access at byte address `addr` when the windows start at `base`; an address
outside `[base, base + 0x4000)` has none (R46). -/
def busDescriptor (base : Nat) (dir : Dir) (addr : Nat) : Option (BitVec 16) :=
  if base ≤ addr ∧ addr - base < 0x4000 then
    some (BitVec.ofNat 16 ((match dir with | .rd => 0 | .wr => 0x4000) + (addr - base)))
  else none

/-- What a request of the host asks for, on a device whose windows start at `base` (R36, R46, R47). -/
def decodeRequest (base : Nat) (r : Request) : Except Reject Instr :=
  match r with
  | .operation op => decode op
  | .bus dir addr size value =>
    match busDescriptor base dir addr with
    | none => .error .outsideWindow
    | some A => decode ⟨A, size, value, []⟩

/-- The operation of descriptor `d` whose payload is empty: a 4-byte bus read or a bare port call. -/
def bareOperation (d : BitVec 16) : Operation := ⟨d, 4, 0, []⟩

/-- The operation of descriptor `d` that carries the write value `v`. -/
def writeOperation (d : BitVec 16) (v : Word) : Operation := ⟨d, 4, v, []⟩

/-- The encoder: the operation each instruction is presented as, its descriptor as the table of R51 and
the encodings of the slot rules give it. What the descriptor does not use is zero or empty. -/
def encode (i : Instr) : Operation :=
  match i with
  | .rdHostMdioCtrl => bareOperation 0x0000#16
  | .rdHostMdioData => bareOperation 0x0004#16
  | .rdHostIrqMask => bareOperation 0x0008#16
  | .rdHostIrqFlags => bareOperation 0x000C#16
  | .rdHostVlanMask => bareOperation 0x0010#16
  | .rdHostUnk5 => bareOperation 0x0014#16
  | .rdHostUnk6 => bareOperation 0x0018#16
  | .rdHostUnk7 => bareOperation 0x001C#16
  | .rdHostUnk8 => bareOperation 0x0020#16
  | .rdHostUnk9 => bareOperation 0x0024#16
  | .rdHostUnk10 => bareOperation 0x0028#16
  | .rdHostUnk11 => bareOperation 0x002C#16
  | .rdHostUnk12 => bareOperation 0x0030#16
  | .rdHostUnk13 => bareOperation 0x0034#16
  | .rdHostUnk14 => bareOperation 0x0038#16
  | .rdHostRevision => bareOperation 0x003C#16
  | .rdMacUnk0 => bareOperation 0x1000#16
  | .rdMacRxConfig => bareOperation 0x1004#16
  | .rdMacTxConfig => bareOperation 0x1008#16
  | .rdMacUnk3 => bareOperation 0x100C#16
  | .rdMacSpeedConfig => bareOperation 0x1010#16
  | .rdMacMdioConfig => bareOperation 0x1014#16
  | .rdMacUnk6 => bareOperation 0x1018#16
  | .rdMacUnk7 => bareOperation 0x101C#16
  | .rdMacUnk8 => bareOperation 0x1020#16
  | .rdMacUnk9 => bareOperation 0x1024#16
  | .rdMacUnk10 => bareOperation 0x1028#16
  | .rdMacUnk11 => bareOperation 0x102C#16
  | .rdMacUnk12 => bareOperation 0x1030#16
  | .rdMacUnk13 => bareOperation 0x1034#16
  | .rdMacUnk14 => bareOperation 0x1038#16
  | .rdMacUnk15 => bareOperation 0x103C#16
  | .rdFifoIntStatus => bareOperation 0x2000#16
  | .rdFifoIntEnable => bareOperation 0x2004#16
  | .rdFifoTxReset => bareOperation 0x2008#16
  | .rdFifoTxVacancy => bareOperation 0x200C#16
  | .rdFifoTxData => bareOperation 0x2010#16
  | .rdFifoTxLength => bareOperation 0x2014#16
  | .rdFifoRxReset => bareOperation 0x2018#16
  | .rdFifoRxOccupancy => bareOperation 0x201C#16
  | .rdFifoRxData => bareOperation 0x2020#16
  | .rdFifoRxLength => bareOperation 0x2024#16
  | .rdFifoUnk10 => bareOperation 0x2028#16
  | .rdFifoUnk11 => bareOperation 0x202C#16
  | .rdFifoUnk12 => bareOperation 0x2030#16
  | .rdFifoUnk13 => bareOperation 0x2034#16
  | .rdFifoUnk14 => bareOperation 0x2038#16
  | .rdFifoUnk15 => bareOperation 0x203C#16
  | .wrHostMdioCtrl v => writeOperation 0x4000#16 v
  | .wrHostMdioData v => writeOperation 0x4004#16 v
  | .wrHostIrqMask v => writeOperation 0x4008#16 v
  | .wrHostIrqFlags v => writeOperation 0x400C#16 v
  | .wrHostVlanMask v => writeOperation 0x4010#16 v
  | .wrHostUnk5 v => writeOperation 0x4014#16 v
  | .wrHostUnk6 v => writeOperation 0x4018#16 v
  | .wrHostUnk7 v => writeOperation 0x401C#16 v
  | .wrHostUnk8 v => writeOperation 0x4020#16 v
  | .wrHostUnk9 v => writeOperation 0x4024#16 v
  | .wrHostUnk10 v => writeOperation 0x4028#16 v
  | .wrHostUnk11 v => writeOperation 0x402C#16 v
  | .wrHostUnk12 v => writeOperation 0x4030#16 v
  | .wrHostUnk13 v => writeOperation 0x4034#16 v
  | .wrHostUnk14 v => writeOperation 0x4038#16 v
  | .wrHostRevision v => writeOperation 0x403C#16 v
  | .wrMacUnk0 v => writeOperation 0x5000#16 v
  | .wrMacRxConfig v => writeOperation 0x5004#16 v
  | .wrMacTxConfig v => writeOperation 0x5008#16 v
  | .wrMacUnk3 v => writeOperation 0x500C#16 v
  | .wrMacSpeedConfig v => writeOperation 0x5010#16 v
  | .wrMacMdioConfig v => writeOperation 0x5014#16 v
  | .wrMacUnk6 v => writeOperation 0x5018#16 v
  | .wrMacUnk7 v => writeOperation 0x501C#16 v
  | .wrMacUnk8 v => writeOperation 0x5020#16 v
  | .wrMacUnk9 v => writeOperation 0x5024#16 v
  | .wrMacUnk10 v => writeOperation 0x5028#16 v
  | .wrMacUnk11 v => writeOperation 0x502C#16 v
  | .wrMacUnk12 v => writeOperation 0x5030#16 v
  | .wrMacUnk13 v => writeOperation 0x5034#16 v
  | .wrMacUnk14 v => writeOperation 0x5038#16 v
  | .wrMacUnk15 v => writeOperation 0x503C#16 v
  | .wrFifoIntStatus v => writeOperation 0x6000#16 v
  | .wrFifoIntEnable v => writeOperation 0x6004#16 v
  | .wrFifoTxReset v => writeOperation 0x6008#16 v
  | .wrFifoTxVacancy v => writeOperation 0x600C#16 v
  | .wrFifoTxData v => writeOperation 0x6010#16 v
  | .wrFifoTxLength v => writeOperation 0x6014#16 v
  | .wrFifoRxReset v => writeOperation 0x6018#16 v
  | .wrFifoRxOccupancy v => writeOperation 0x601C#16 v
  | .wrFifoRxData v => writeOperation 0x6020#16 v
  | .wrFifoRxLength v => writeOperation 0x6024#16 v
  | .wrFifoUnk10 v => writeOperation 0x6028#16 v
  | .wrFifoUnk11 v => writeOperation 0x602C#16 v
  | .wrFifoUnk12 v => writeOperation 0x6030#16 v
  | .wrFifoUnk13 v => writeOperation 0x6034#16 v
  | .wrFifoUnk14 v => writeOperation 0x6038#16 v
  | .wrFifoUnk15 v => writeOperation 0x603C#16 v
  | .portRxCanAccept => bareOperation 0x8000#16
  | .portRxDeliver frame => ⟨0x8001#16, 4, 0, frame⟩

/-- The operation with every part its descriptor does not use set as the encoder sets it: the size of a
port operation, the value of all but a bus write, the frame of all but RX_DELIVER (R46). -/
def Operation.normalise (op : Operation) : Operation :=
  { descriptor := op.descriptor
    size := if op.isBus then op.size else 4
    value := if kindField op.descriptor = 1 then op.value else 0
    frame := if op.descriptor = 0x8001#16 then op.frame else [] }

/-- The bits `w` of a table row, `nbits` of them, as a presented operation: bits 15:0 are the descriptor
and bits 47:16, zero where the table gives none, the write value. The width is the 4 bytes the table
says every bus row has, and a delivered frame is empty (log 5). -/
def tableOperation (nbits w : Nat) : Operation :=
  writeOperation (BitVec.ofNat 16 (w % 2 ^ nbits)) (BitVec.ofNat 32 (w % 2 ^ nbits / 2 ^ 16))

/-- What the decoder reads from the bits of a table row. -/
def decodeTableWord (nbits w : Nat) : Option Instr :=
  (decode (tableOperation nbits w)).toOption

end Sys2Proof
end

