-- ==== Sys2Proof/Machine/Operands.lean ====
section
/-! DEFINITION. How a write uses its 32-bit value (R49), how a read assembles its result (R50), and the
configuration the machine's meanings use. -/

namespace Sys2Proof.Machine

/-- The configuration every meaning reads (R7): the parameters of construction. -/
def cfg : Config.Params := Config.params

/-- `RESET_MAGIC` (R6). -/
def resetMagic : Word := 0x000000A5#32

/-- `MDIO_PLACEHOLDER`, all-ones lower 16 bits (R6). -/
def mdioPlaceholder : BitVec 16 := 0xFFFF#16

/-- `HOST_IRQ_FIELD`, the low 2 bits (R6). -/
def hostIrqField : Word := 0x00000003#32

/-- `v[10:0]`, what Host slot 0 stores (R49, R71). -/
def mdioCtrlOperand (v : Word) : BitVec 11 := v.extractLsb' 0 11

/-- `v[10]`, the read/write select: 1 is a read request (R18, R49). -/
def mdioSelectOperand (v : Word) : Bool := v.getLsbD 10

/-- `v[9:5]`, the PHY address (R18, R49). -/
def mdioPhyOperand (v : Word) : BitVec 5 := v.extractLsb' 5 5

/-- `v[4:0]`, the PHY register address (R18, R49). -/
def mdioRegOperand (v : Word) : BitVec 5 := v.extractLsb' 0 5

/-- `v[15:0]`, what Host slot 1 stores (R49, R73). -/
def mdioDataOperand (v : Word) : BitVec 16 := v.extractLsb' 0 16

/-- `v[1:0]`, what Host slot 2 stores (R49, R75). -/
def hostMaskOperand (v : Word) : BitVec 2 := v.extractLsb' 0 2

/-- `v & HOST_IRQ_FIELD`, the host flags to clear (R49, R77). -/
def hostClearOperand (v : Word) : BitVec 2 := (v &&& hostIrqField).setWidth 2

/-- `v & FIFO_INT_FIELD`, the FIFO bits to clear or to enable (R49, R90, R92). -/
def fifoBitsOperand (p : Config.Params) (v : Word) : Word := v &&& p.fifoIntField

/-- The whole of `v` compared with `RESET_MAGIC` (R49, R94, R102, D21). -/
def isResetMagic (v : Word) : Bool := v == resetMagic

/-- `zext_32`: a narrow stored field as a read returns it (R8, R50). -/
def zext32 {n : Nat} (x : BitVec n) : Word := x.setWidth 32

/-- A computed count as a read returns it (R50). -/
def countResult (n : Nat) : Word := BitVec.ofNat 32 n

end Sys2Proof.Machine
end

