-- ==== Sys2Proof/Machine/State.lean ====
section
/-! DEFINITION. The device's state as plain data: the record of R13, and beside it the three lists of the
model's own that join the device to its host (log 1, log 2); the reasons a step can stop; and the
state after construction. -/

namespace Sys2Proof.Machine

/-- A ring buffer of capacity `N` (R57): `N` words, the position the next pushed word is written to and
the position the next popped word is read from, both in `[0, N - 1]`. -/
structure RingBuffer (N : Nat) where
  mem : Vector Word N
  pushIdx : Fin N
  popIdx : Fin N
  deriving DecidableEq, Repr

/-- What a ring holds at construction (R27): both indices 0 and the storage as given. -/
def RingBuffer.construct (N : Nat) (h : 0 < N) (init : Nat → Word) : RingBuffer N where
  mem := ⟨⟨(List.range' 0 N).map init⟩, by simp⟩
  pushIdx := ⟨0, h⟩
  popIdx := ⟨0, h⟩

/-- The codes of the error conditions (R127, D20). -/
inductive ErrorCode where
  | unknownRegister
  | txOverflow
  | rxUnderflow
  | invalidReset
  deriving DecidableEq, Repr

/-- An output event of a step (R10): a frame handed to the transport sink (R117), or a diagnostic, which
carries its code, bank, slot and direction (R128). -/
inductive Event where
  | send (frame : List Byte)
  | diag (code : ErrorCode) (bank : Bank) (slot : Fin 16) (dir : Dir)
  deriving DecidableEq, Repr

/-- What a completed access returns to whoever presented it (R146): the value of a bus read, nothing for
a bus write, the answer of RX_CAN_ACCEPT, the failure of RX_DELIVER. -/
inductive Reply where
  | value (w : Word)
  | nothing
  | canAccept (b : Bool)
  | failure
  deriving DecidableEq, Repr

/-- The device (R13), with its open requests and its outputs so far. -/
structure State where
  /-- Host slot 0, MDIO control (R18). -/
  mdioCtrl : BitVec 11
  /-- Host slot 1, MDIO data (R19). -/
  mdioData : BitVec 16
  /-- Host slot 2, IRQ mask (R20). -/
  hostMask : BitVec 2
  /-- Host slot 3, IRQ flags, sticky (R21). -/
  hostFlags : BitVec 2
  /-- Host slot 4, VLAN mask (R22). -/
  vlanMask : Word
  /-- FIFO slot 0, interrupt status, sticky (R23). -/
  fifoStatus : Word
  /-- FIFO slot 1, interrupt enable mask (R24). -/
  fifoEnable : Word
  /-- FIFO slot 2's stored word, "tx reset" (R25). -/
  shadow2 : Word
  /-- FIFO slot 4's stored word, "tx data mirror" (R25). -/
  shadow4 : Word
  /-- FIFO slot 5's stored word, "tx length mirror" (R25). -/
  shadow5 : Word
  /-- FIFO slot 6's stored word, "rx reset" (R25). -/
  shadow6 : Word
  /-- TX data ring (R13, R68). -/
  txd : RingBuffer 512
  /-- TX length ring (R13, R68). -/
  txl : RingBuffer 16
  /-- RX data ring (R13, R68). -/
  rxd : RingBuffer 512
  /-- RX length ring (R13, R68). -/
  rxl : RingBuffer 16
  /-- The model's own: the requests the host has yet to present, oldest first (R3, R41; log 1). -/
  inbox : List Request
  /-- The model's own: every event emitted so far, oldest first (R10, R11; log 2). -/
  events : List Event
  /-- The model's own: what each completed access returned, oldest first (R10; log 2). -/
  replies : List Reply
  deriving DecidableEq, Repr

/-- The device raises no exception, trap, bus error or fatal abort (R126): no step faults. -/
inductive Fault where
  deriving DecidableEq, Repr

/-- Why an operation is not performed. The last five are the spec's refusals (R47, R53), raised by the
fetch of a request, before any instruction runs; stopping there is safe (D13). -/
inductive Refusal where
  /-- Raised by an arm of `exec` that has no meaning yet; safe. No arm uses it. -/
  | notModelled (mnemonic : String)
  /-- Raised by a request whose descriptor has `kind = 11` (R47); safe. -/
  | reservedKind
  /-- Raised by a bus access of a width other than 4 bytes (R34); safe. -/
  | narrowOrWideAccess
  /-- Raised by a bus access outside the three windows (R36); safe. -/
  | outsideWindow
  /-- Raised by a bus access at an offset that is not word aligned (R35); safe. -/
  | misalignedAccess
  /-- Raised by a port operation other than the two that exist (R125); safe. -/
  | reservedPortOp
  deriving DecidableEq, Repr

/-- The state after construction, the device's power-on reset (R29, R147): every register 0 (D10), every
ring empty at indices 0 with the storage of the `*_INIT` parameters (R27), and nothing presented,
emitted or returned yet. -/
def State.reset : State where
  mdioCtrl := 0
  mdioData := 0
  hostMask := 0
  hostFlags := 0
  vlanMask := 0
  fifoStatus := 0
  fifoEnable := 0
  shadow2 := 0
  shadow4 := 0
  shadow5 := 0
  shadow6 := 0
  txd := .construct 512 (by decide) Config.params.txdInit
  txl := .construct 16 (by decide) Config.params.txlInit
  rxd := .construct 512 (by decide) Config.params.rxdInit
  rxl := .construct 16 (by decide) Config.params.rxlInit
  inbox := []
  events := []
  replies := []

end Sys2Proof.Machine
end

