-- ==== Sys2Proof/Machine/Rings.lean ====
section
/-! DEFINITION. The ring buffer primitives (R57 to R65), once for every capacity. -/

namespace Sys2Proof.Machine

/-- A number as a position of the ring: index arithmetic is modulo the capacity (R9, R57). -/
def RingBuffer.position {N : Nat} (r : RingBuffer N) (n : Nat) : Fin N :=
  ⟨n % N, Nat.mod_lt _ (Nat.zero_lt_of_lt r.popIdx.isLt)⟩

/-- The word stored at a position. -/
def RingBuffer.wordAt {N : Nat} (r : RingBuffer N) (i : Fin N) : Word := r.mem.get i

/-- R58: `isEmpty(r) := (r.push = r.pop)`. -/
def RingBuffer.isEmpty {N : Nat} (r : RingBuffer N) : Bool := r.pushIdx == r.popIdx

/-- R59: `occ(r) := (r.push - r.pop) mod N`, on integers. -/
def RingBuffer.occ {N : Nat} (r : RingBuffer N) : Nat :=
  (((r.pushIdx.val : Int) - (r.popIdx.val : Int)) % (N : Int)).toNat

/-- R60: `isFull(r) := ((r.push + 1) mod N = r.pop)`. -/
def RingBuffer.isFull {N : Nat} (r : RingBuffer N) : Bool := r.position (r.pushIdx.val + 1) == r.popIdx

/-- R61: store the word at the push position and advance it. Callers test `isFull` first. -/
def RingBuffer.push {N : Nat} (r : RingBuffer N) (v : Word) : RingBuffer N :=
  { r with
    mem := r.mem.set r.pushIdx.val v
    pushIdx := r.position (r.pushIdx.val + 1) }

/-- What `pop` gives: the word, whether the ring was empty, and the ring after. -/
structure Popped (N : Nat) where
  word : Word
  wasEmpty : Bool
  ring : RingBuffer N
  deriving DecidableEq, Repr

/-- R62: the word at the pop position, in both cases; the position advances only when non-empty. -/
def RingBuffer.pop {N : Nat} (r : RingBuffer N) : Popped N where
  word := r.wordAt r.popIdx
  wasEmpty := r.isEmpty
  ring := if r.isEmpty then r else { r with popIdx := r.position (r.popIdx.val + 1) }

/-- R63: the word at the pop position. -/
def RingBuffer.peek {N : Nat} (r : RingBuffer N) : Word := r.wordAt r.popIdx

/-- What `take` gives: the words in ring order, and the ring after. -/
structure Taken (N : Nat) where
  words : List Word
  ring : RingBuffer N
  deriving DecidableEq, Repr

/-- R64: the `k` words from the pop position on, which then advances by `k`. Its one caller, the
Transmit Pipeline, checks `k ≤ occ` first. -/
def RingBuffer.take {N : Nat} (r : RingBuffer N) (k : Nat) : Taken N where
  words := (List.range k).map fun i => r.wordAt (r.position (r.popIdx.val + i))
  ring := { r with popIdx := r.position (r.popIdx.val + k) }

/-- R65: both indices to 0; the storage stays. -/
def RingBuffer.clear {N : Nat} (r : RingBuffer N) : RingBuffer N :=
  { r with pushIdx := r.position 0, popIdx := r.position 0 }

end Sys2Proof.Machine
end

