-- ==== Sys2Proof/Machine/Flags.lean ====
section
/-! DEFINITION. Every status bit: the named masks (R7), how a bit is set and cleared (R23, R77, R90), and
the interrupt lines, which are functions of the state and are stored nowhere (R14, R132 to R135). -/

namespace Sys2Proof.Machine

/-- `M_RPURE`, receive FIFO underflow (R7). -/
def mRpure (p : Config.Params) : Word := 1#32 <<< p.bitRpure.val

/-- `M_TPOE`, transmit FIFO overflow (R7). -/
def mTpoe (p : Config.Params) : Word := 1#32 <<< p.bitTpoe.val

/-- `M_TC`, transmit complete (R7). -/
def mTc (p : Config.Params) : Word := 1#32 <<< p.bitTc.val

/-- `HOST_IRQ_MDIO_DONE`, host flag bit 0 (R6). -/
def mdioDone : BitVec 2 := 1#2

/-- Write-1-to-clear: each status bit set in the operand is cleared, the others stay (R12, R77, R90). -/
def w1c {n : Nat} (status clear : BitVec n) : BitVec n := status &&& ~~~clear

/-- Set the status bits of `m` in the FIFO status register; they are sticky (R23). -/
def State.raise (s : State) (m : Word) : State := { s with fifoStatus := s.fifoStatus ||| m }

/-- The host interrupt line (R132). -/
def irqHost (s : State) : Bool := (s.hostFlags &&& s.hostMask) != 0

/-- The FIFO interrupt line (R133). -/
def irqFifo (s : State) : Bool := (s.fifoStatus &&& s.fifoEnable) != 0

/-- The PHY interrupt line, never asserted (R134). -/
def irqPhy (_s : State) : Bool := false

/-- The three levels the host can sample after any access (R135, R146). -/
structure LineLevels where
  host : Bool
  fifo : Bool
  phy : Bool
  deriving DecidableEq, Repr

/-- What the host samples (R135, R146). -/
def sampleLines (s : State) : LineLevels := ⟨irqHost s, irqFifo s, irqPhy s⟩

end Sys2Proof.Machine
end

