-- ==== Sys2Proof/Machine/Ops.lean ====
section
/-! DEFINITION. The shared operations of the meanings: completing an access, the unknown-register policy
(R52, R128), the MDIO shim (R69), the two ring resets (R94, R102), the TX vacancy (R88), the RX pops
(R105, R107), and taking the host's next request.

The device takes no exception and has no return from one (R126, R138, R139), so no such operation
stands here: every error condition of R127 is a status bit, a diagnostic or nothing, set by the access
that meets it. -/

namespace Sys2Proof.Machine

/-- What one step or one instruction answers. -/
abbrev Result := Host.Outcome State Fault Refusal

/-- Emit one event (R10, R11). -/
def State.emit (s : State) (e : Event) : State := { s with events := s.events ++ [e] }

/-- Return to whoever presented the access (R10). -/
def State.reply (s : State) (r : Reply) : State := { s with replies := s.replies ++ [r] }

/-- A bus read completes in state `s`, returning `w` (R10, R50). -/
def completeRead (w : Word) (s : State) : Result := .next (s.reply (.value w))

/-- A bus write completes in state `s`; it returns nothing (R146). -/
def completeWrite (s : State) : Result := .next (s.reply .nothing)

/-- The "unknown register" diagnostic, which changes nothing else (R128). -/
def State.diagnoseUnknown (s : State) (bank : Bank) (slot : Fin 16) (dir : Dir) : State :=
  s.emit (.diag .unknownRegister bank slot dir)

/-- Read of an undefined slot: one diagnostic, and 0 returned (R82, R86, R109). -/
def readUnknown (bank : Bank) (slot : Fin 16) (s : State) : Result :=
  completeRead 0 (s.diagnoseUnknown bank slot .rd)

/-- Write to an undefined slot: one diagnostic, and the value discarded (R83, R87, R110). -/
def writeUnknown (bank : Bank) (slot : Fin 16) (_v : Word) (s : State) : Result :=
  completeWrite (s.diagnoseUnknown bank slot .wr)

/-- Write to a defined slot that accepts and discards (R81, R85, R96, R104, R106, R108). -/
def writeDiscarded (_v : Word) (s : State) : Result := completeWrite s

/-- The MDIO Shim (R69). There is no PHY, so its address and register are accepted and ignored. -/
def mdioShim (readRequest : Bool) (_phy _reg : BitVec 5) (s : State) : State :=
  { s with
    mdioData := if readRequest then mdioPlaceholder else s.mdioData
    hostFlags := s.hostFlags ||| mdioDone }

/-- The TX reset: both TX rings' indices to 0 in one access (R94). -/
def State.clearTx (s : State) : State := { s with txd := s.txd.clear, txl := s.txl.clear }

/-- The RX reset: both RX rings' indices to 0 in one access (R102). -/
def State.clearRx (s : State) : State := { s with rxd := s.rxd.clear, rxl := s.rxl.clear }

/-- What a shadow word holds after a write of `v` to its slot (R25, R94, R100, R102, D8). -/
def shadowAfter (p : Config.Params) (old v : Word) : Word := if p.shadowTracksWrites then v else old

/-- `txVacancy(s)` (R88). -/
def txVacancy (s : State) : Nat := if s.txl.isFull then 0 else 512 - s.txd.occ - 1

/-- Pop the RX data ring, setting `M_RPURE` when it was empty (R105). -/
def popRxData (p : Config.Params) (s : State) : State :=
  if s.rxd.pop.wasEmpty then s.raise (mRpure p) else { s with rxd := s.rxd.pop.ring }

/-- Pop the RX length ring, setting `M_RPURE` when it was empty (R107). -/
def popRxLength (p : Config.Params) (s : State) : State :=
  if s.rxl.pop.wasEmpty then s.raise (mRpure p) else { s with rxl := s.rxl.pop.ring }

/-- The refusal that names why an operation is outside the contract (R47, R53). -/
def refusalOf (why : Reject) : Refusal :=
  match why with
  | .reservedKind => .reservedKind
  | .narrowOrWideAccess => .narrowOrWideAccess
  | .outsideWindow => .outsideWindow
  | .misalignedAccess => .misalignedAccess
  | .reservedPortOp => .reservedPortOp

/-- What taking the next request gives: none is presented, it is refused, or it is an instruction to run
in the state whose inbox no longer holds it. -/
inductive Fetched where
  | idle
  | rejected (why : Refusal)
  | run (i : Instr) (s : State)
  deriving DecidableEq, Repr

/-- Take the host's oldest request (R3, R41): the device acts on one at a time, in order. -/
def fetch (s : State) : Fetched :=
  match s.inbox with
  | [] => .idle
  | r :: rest =>
    match decodeRequest cfg.base r with
    | .error why => .rejected (refusalOf why)
    | .ok i => .run i { s with inbox := rest }

/-- The host presents `r` before everything it has yet to present. -/
def State.present (s : State) (r : Request) : State := { s with inbox := r :: s.inbox }

end Sys2Proof.Machine
end

