-- ==== Sys2Proof/Machine/TxPipeline.lean ====
section
/-! DEFINITION. The Transmit Pipeline (R111 to R119) and the two writes that feed it (R98, R100). -/

namespace Sys2Proof.Machine

/-- `wordCount(len) := ceil(len / 4)`, exact on naturals (R9, R113, D6). -/
def wordCount (len : Word) : Nat := (len.toNat + 3) / 4

/-- The four bytes of a word in the transport's order (R115). -/
def bytesOf (order : Config.FrameByteOrder) (w : Word) : List Byte :=
  match order with
  | .msbFirst => [w.extractLsb' 24 8, w.extractLsb' 16 8, w.extractLsb' 8 8, w.extractLsb' 0 8]
  | .lsbFirst => [w.extractLsb' 0 8, w.extractLsb' 8 8, w.extractLsb' 16 8, w.extractLsb' 24 8]

/-- `assemble(words, len)`: the first `len` bytes of the words' bytes (R116). -/
def assembleFrame (order : Config.FrameByteOrder) (words : List Word) (len : Word) : List Byte :=
  (words.flatMap (bytesOf order)).take len.toNat

/-- The head length record can be sent: there is one, and the data ring holds its words (R112, R114). -/
def headReady (s : State) : Bool := !s.txl.isEmpty && decide (wordCount s.txl.peek ≤ s.txd.occ)

/-- Consume the head record and its words and hand the frame to the sink (R112, R117). -/
def sendHead (p : Config.Params) (s : State) : State :=
  { s with
    txl := s.txl.pop.ring
    txd := (s.txd.take (wordCount s.txl.peek)).ring
    events := s.events ++
      [.send (assembleFrame p.frameByteOrder (s.txd.take (wordCount s.txl.peek)).words s.txl.peek)] }

/-- The loop of R112, at most `fuel` times round. -/
def drainFrames (p : Config.Params) (fuel : Nat) (s : State) : State :=
  match fuel with
  | 0 => s
  | n + 1 => if headReady s then drainFrames p n (sendHead p s) else s

/-- `TxPipeline()` (R112): send while the head record is ready, then set `M_TC` if the length queue is
empty (R118). Each time round pops one record, so the queue's occupancy bounds the loop. -/
def txPipeline (p : Config.Params) (s : State) : State :=
  let t := drainFrames p s.txl.occ s
  if t.txl.isEmpty then t.raise (mTc p) else t

/-- The effect of `WR FIFO.TX_DATA, v` (R98, R129). -/
def writeTxData (p : Config.Params) (v : Word) (s : State) : State :=
  if s.txl.isFull || s.txd.isFull then s.raise (mTpoe p) else { s with txd := s.txd.push v }

/-- The effect of `WR FIFO.TX_LENGTH, v` on the rings and the status (R100, R111, R129). -/
def queueTxLength (p : Config.Params) (v : Word) (s : State) : State :=
  if s.txl.isFull then s.raise (mTpoe p) else txPipeline p { s with txl := s.txl.push v }

/-- The effect of `WR FIFO.TX_LENGTH, v`: the queue, then the shadow word, accepted or not (R99, R100). -/
def writeTxLength (p : Config.Params) (v : Word) (s : State) : State :=
  { queueTxLength p v s with shadow5 := shadowAfter p s.shadow5 v }

end Sys2Proof.Machine
end

