-- ==== Sys2Proof/Machine/FifoBank.lean ====
section
/-! DEFINITION. The FIFO control bank (R89 to R110): one meaning for each of its 32 accesses. -/

namespace Sys2Proof.Machine

/-- R89: `RD FIFO.INT_STATUS`. The stored word; reading clears nothing. -/
def execRdFifoIntStatus (s : State) : Result :=
  completeRead s.fifoStatus s

/-- R91: `RD FIFO.INT_ENABLE`. The stored mask. -/
def execRdFifoIntEnable (s : State) : Result :=
  completeRead s.fifoEnable s

/-- R93: `RD FIFO.TX_RESET`. The stored shadow word. -/
def execRdFifoTxReset (s : State) : Result :=
  completeRead s.shadow2 s

/-- R95: `RD FIFO.TX_VACANCY`. The computed vacancy (R88). -/
def execRdFifoTxVacancy (s : State) : Result :=
  completeRead (countResult (txVacancy s)) s

/-- R97: `RD FIFO.TX_DATA`. The stored shadow word; no ring is read or popped (C4). -/
def execRdFifoTxData (s : State) : Result :=
  completeRead s.shadow4 s

/-- R99: `RD FIFO.TX_LENGTH`. The stored shadow word; no ring is popped. -/
def execRdFifoTxLength (s : State) : Result :=
  completeRead s.shadow5 s

/-- R101: `RD FIFO.RX_RESET`. The stored shadow word. -/
def execRdFifoRxReset (s : State) : Result :=
  completeRead s.shadow6 s

/-- R103: `RD FIFO.RX_OCCUPANCY`. The RX data ring's occupancy. -/
def execRdFifoRxOccupancy (s : State) : Result :=
  completeRead (countResult s.rxd.occ) s

/-- R105: `RD FIFO.RX_DATA`. Pop, or the stale word and `M_RPURE` when empty. -/
def execRdFifoRxData (s : State) : Result :=
  completeRead s.rxd.pop.word (popRxData cfg s)

/-- R107: `RD FIFO.RX_LENGTH`. Pop, or the stale word and `M_RPURE` when empty. -/
def execRdFifoRxLength (s : State) : Result :=
  completeRead s.rxl.pop.word (popRxLength cfg s)

/-- R109: `RD FIFO.UNK10`. An undefined slot: a diagnostic, and 0. -/
def execRdFifoUnk10 (s : State) : Result :=
  readUnknown .fifo 10 s

/-- R109: `RD FIFO.UNK11`. An undefined slot: a diagnostic, and 0. -/
def execRdFifoUnk11 (s : State) : Result :=
  readUnknown .fifo 11 s

/-- R109: `RD FIFO.UNK12`. An undefined slot: a diagnostic, and 0. -/
def execRdFifoUnk12 (s : State) : Result :=
  readUnknown .fifo 12 s

/-- R109: `RD FIFO.UNK13`. An undefined slot: a diagnostic, and 0. -/
def execRdFifoUnk13 (s : State) : Result :=
  readUnknown .fifo 13 s

/-- R109: `RD FIFO.UNK14`. An undefined slot: a diagnostic, and 0. -/
def execRdFifoUnk14 (s : State) : Result :=
  readUnknown .fifo 14 s

/-- R109: `RD FIFO.UNK15`. An undefined slot: a diagnostic, and 0. -/
def execRdFifoUnk15 (s : State) : Result :=
  readUnknown .fifo 15 s

/-- R90: `WR FIFO.INT_STATUS, v`. Write-1-to-clear of the FIFO status register only (C1, D2, D3). -/
def execWrFifoIntStatus (v : Word) (s : State) : Result :=
  completeWrite { s with fifoStatus := w1c s.fifoStatus (fifoBitsOperand cfg v) }

/-- R92: `WR FIFO.INT_ENABLE, v`. Store the bits inside `FIFO_INT_FIELD`; the FIFO line follows (R133). -/
def execWrFifoIntEnable (v : Word) (s : State) : Result :=
  completeWrite { s with fifoEnable := fifoBitsOperand cfg v }

/-- R94: `WR FIFO.TX_RESET, v`. Clear both TX rings if the whole word is the magic value (D21). -/
def execWrFifoTxReset (v : Word) (s : State) : Result :=
  completeWrite
    { (if isResetMagic v then s.clearTx else s) with shadow2 := shadowAfter cfg s.shadow2 v }

/-- R96: `WR FIFO.TX_VACANCY, v`. Accepted and discarded, without a diagnostic. -/
def execWrFifoTxVacancy (v : Word) (s : State) : Result :=
  writeDiscarded v s

/-- R98: `WR FIFO.TX_DATA, v`. Push one data word, or overflow. -/
def execWrFifoTxData (v : Word) (s : State) : Result :=
  completeWrite (writeTxData cfg v s)

/-- R100: `WR FIFO.TX_LENGTH, v`. Push one length record and run the pipeline, or overflow. -/
def execWrFifoTxLength (v : Word) (s : State) : Result :=
  completeWrite (writeTxLength cfg v s)

/-- R102: `WR FIFO.RX_RESET, v`. Clear both RX rings if the whole word is the magic value (D21). -/
def execWrFifoRxReset (v : Word) (s : State) : Result :=
  completeWrite
    { (if isResetMagic v then s.clearRx else s) with shadow6 := shadowAfter cfg s.shadow6 v }

/-- R104: `WR FIFO.RX_OCCUPANCY, v`. Accepted and discarded, without a diagnostic. -/
def execWrFifoRxOccupancy (v : Word) (s : State) : Result :=
  writeDiscarded v s

/-- R106: `WR FIFO.RX_DATA, v`. Accepted and discarded, without a diagnostic. -/
def execWrFifoRxData (v : Word) (s : State) : Result :=
  writeDiscarded v s

/-- R108: `WR FIFO.RX_LENGTH, v`. Accepted and discarded, without a diagnostic. -/
def execWrFifoRxLength (v : Word) (s : State) : Result :=
  writeDiscarded v s

/-- R110: `WR FIFO.UNK10, v`. An undefined slot: a diagnostic, and nothing stored. -/
def execWrFifoUnk10 (v : Word) (s : State) : Result :=
  writeUnknown .fifo 10 v s

/-- R110: `WR FIFO.UNK11, v`. An undefined slot: a diagnostic, and nothing stored. -/
def execWrFifoUnk11 (v : Word) (s : State) : Result :=
  writeUnknown .fifo 11 v s

/-- R110: `WR FIFO.UNK12, v`. An undefined slot: a diagnostic, and nothing stored. -/
def execWrFifoUnk12 (v : Word) (s : State) : Result :=
  writeUnknown .fifo 12 v s

/-- R110: `WR FIFO.UNK13, v`. An undefined slot: a diagnostic, and nothing stored. -/
def execWrFifoUnk13 (v : Word) (s : State) : Result :=
  writeUnknown .fifo 13 v s

/-- R110: `WR FIFO.UNK14, v`. An undefined slot: a diagnostic, and nothing stored. -/
def execWrFifoUnk14 (v : Word) (s : State) : Result :=
  writeUnknown .fifo 14 v s

/-- R110: `WR FIFO.UNK15, v`. An undefined slot: a diagnostic, and nothing stored. -/
def execWrFifoUnk15 (v : Word) (s : State) : Result :=
  writeUnknown .fifo 15 v s

end Sys2Proof.Machine
end

