-- ==== Sys2Proof/Machine/HostBank.lean ====
section
/-! DEFINITION. The Host/Ethernet bank (R70 to R83): one meaning for each of its 32 accesses. -/

namespace Sys2Proof.Machine

/-- R70: `RD HOST.MDIO_CTRL`. The stored 11 bits, zero-extended (C2). -/
def execRdHostMdioCtrl (s : State) : Result :=
  completeRead (zext32 s.mdioCtrl) s

/-- R72: `RD HOST.MDIO_DATA`. The stored 16 bits, zero-extended. -/
def execRdHostMdioData (s : State) : Result :=
  completeRead (zext32 s.mdioData) s

/-- R74: `RD HOST.IRQ_MASK`. The stored 2 bits, zero-extended. -/
def execRdHostIrqMask (s : State) : Result :=
  completeRead (zext32 s.hostMask) s

/-- R76: `RD HOST.IRQ_FLAGS`. The sticky flags; reading clears nothing. -/
def execRdHostIrqFlags (s : State) : Result :=
  completeRead (zext32 s.hostFlags) s

/-- R78: `RD HOST.VLAN_MASK`. The stored word. -/
def execRdHostVlanMask (s : State) : Result :=
  completeRead s.vlanMask s

/-- R82: `RD HOST.UNK5`. An undefined slot: a diagnostic, and 0. -/
def execRdHostUnk5 (s : State) : Result :=
  readUnknown .host 5 s

/-- R82: `RD HOST.UNK6`. An undefined slot: a diagnostic, and 0. -/
def execRdHostUnk6 (s : State) : Result :=
  readUnknown .host 6 s

/-- R82: `RD HOST.UNK7`. An undefined slot: a diagnostic, and 0. -/
def execRdHostUnk7 (s : State) : Result :=
  readUnknown .host 7 s

/-- R82: `RD HOST.UNK8`. An undefined slot: a diagnostic, and 0. -/
def execRdHostUnk8 (s : State) : Result :=
  readUnknown .host 8 s

/-- R82: `RD HOST.UNK9`. An undefined slot: a diagnostic, and 0. -/
def execRdHostUnk9 (s : State) : Result :=
  readUnknown .host 9 s

/-- R82: `RD HOST.UNK10`. An undefined slot: a diagnostic, and 0. -/
def execRdHostUnk10 (s : State) : Result :=
  readUnknown .host 10 s

/-- R82: `RD HOST.UNK11`. An undefined slot: a diagnostic, and 0. -/
def execRdHostUnk11 (s : State) : Result :=
  readUnknown .host 11 s

/-- R82: `RD HOST.UNK12`. An undefined slot: a diagnostic, and 0. -/
def execRdHostUnk12 (s : State) : Result :=
  readUnknown .host 12 s

/-- R82: `RD HOST.UNK13`. An undefined slot: a diagnostic, and 0. -/
def execRdHostUnk13 (s : State) : Result :=
  readUnknown .host 13 s

/-- R82: `RD HOST.UNK14`. An undefined slot: a diagnostic, and 0. -/
def execRdHostUnk14 (s : State) : Result :=
  readUnknown .host 14 s

/-- R80: `RD HOST.REVISION`. The constant that identifies the model. -/
def execRdHostRevision (s : State) : Result :=
  completeRead cfg.revision s

/-- R71: `WR HOST.MDIO_CTRL, v`. Store the low 11 bits, then one MDIO transaction (R69). -/
def execWrHostMdioCtrl (v : Word) (s : State) : Result :=
  completeWrite
    (mdioShim (mdioSelectOperand v) (mdioPhyOperand v) (mdioRegOperand v)
      { s with mdioCtrl := mdioCtrlOperand v })

/-- R73: `WR HOST.MDIO_DATA, v`. Store the low 16 bits. -/
def execWrHostMdioData (v : Word) (s : State) : Result :=
  completeWrite { s with mdioData := mdioDataOperand v }

/-- R75: `WR HOST.IRQ_MASK, v`. Store the low 2 bits; the host line follows (R132). -/
def execWrHostIrqMask (v : Word) (s : State) : Result :=
  completeWrite { s with hostMask := hostMaskOperand v }

/-- R77: `WR HOST.IRQ_FLAGS, v`. Write-1-to-clear of the low 2 bits. -/
def execWrHostIrqFlags (v : Word) (s : State) : Result :=
  completeWrite { s with hostFlags := w1c s.hostFlags (hostClearOperand v) }

/-- R79: `WR HOST.VLAN_MASK, v`. Stored where the configuration stores it; no other effect. -/
def execWrHostVlanMask (v : Word) (s : State) : Result :=
  completeWrite { s with vlanMask := if cfg.vlanWriteStores then v else s.vlanMask }

/-- R83: `WR HOST.UNK5, v`. An undefined slot: a diagnostic, and nothing stored. -/
def execWrHostUnk5 (v : Word) (s : State) : Result :=
  writeUnknown .host 5 v s

/-- R83: `WR HOST.UNK6, v`. An undefined slot: a diagnostic, and nothing stored. -/
def execWrHostUnk6 (v : Word) (s : State) : Result :=
  writeUnknown .host 6 v s

/-- R83: `WR HOST.UNK7, v`. An undefined slot: a diagnostic, and nothing stored. -/
def execWrHostUnk7 (v : Word) (s : State) : Result :=
  writeUnknown .host 7 v s

/-- R83: `WR HOST.UNK8, v`. An undefined slot: a diagnostic, and nothing stored. -/
def execWrHostUnk8 (v : Word) (s : State) : Result :=
  writeUnknown .host 8 v s

/-- R83: `WR HOST.UNK9, v`. An undefined slot: a diagnostic, and nothing stored. -/
def execWrHostUnk9 (v : Word) (s : State) : Result :=
  writeUnknown .host 9 v s

/-- R83: `WR HOST.UNK10, v`. An undefined slot: a diagnostic, and nothing stored. -/
def execWrHostUnk10 (v : Word) (s : State) : Result :=
  writeUnknown .host 10 v s

/-- R83: `WR HOST.UNK11, v`. An undefined slot: a diagnostic, and nothing stored. -/
def execWrHostUnk11 (v : Word) (s : State) : Result :=
  writeUnknown .host 11 v s

/-- R83: `WR HOST.UNK12, v`. An undefined slot: a diagnostic, and nothing stored. -/
def execWrHostUnk12 (v : Word) (s : State) : Result :=
  writeUnknown .host 12 v s

/-- R83: `WR HOST.UNK13, v`. An undefined slot: a diagnostic, and nothing stored. -/
def execWrHostUnk13 (v : Word) (s : State) : Result :=
  writeUnknown .host 13 v s

/-- R83: `WR HOST.UNK14, v`. An undefined slot: a diagnostic, and nothing stored. -/
def execWrHostUnk14 (v : Word) (s : State) : Result :=
  writeUnknown .host 14 v s

/-- R81: `WR HOST.REVISION, v`. Ignored, without a diagnostic. -/
def execWrHostRevision (v : Word) (s : State) : Result :=
  writeDiscarded v s

end Sys2Proof.Machine
end

