-- ==== Sys2Proof/Machine/MacBank.lean ====
section
/-! DEFINITION. The MAC configuration bank, a stub that holds no state (R84 to R87): one meaning for each of its 32 accesses. -/

namespace Sys2Proof.Machine

/-- R86: `RD MAC.UNK0`. An undefined slot: a diagnostic, and 0. -/
def execRdMacUnk0 (s : State) : Result :=
  readUnknown .mac 0 s

/-- R84: `RD MAC.RX_CONFIG`. Always 0, without a diagnostic. -/
def execRdMacRxConfig (s : State) : Result :=
  completeRead 0 s

/-- R84: `RD MAC.TX_CONFIG`. Always 0, without a diagnostic. -/
def execRdMacTxConfig (s : State) : Result :=
  completeRead 0 s

/-- R86: `RD MAC.UNK3`. An undefined slot: a diagnostic, and 0. -/
def execRdMacUnk3 (s : State) : Result :=
  readUnknown .mac 3 s

/-- R84: `RD MAC.SPEED_CONFIG`. Always 0, without a diagnostic. -/
def execRdMacSpeedConfig (s : State) : Result :=
  completeRead 0 s

/-- R84: `RD MAC.MDIO_CONFIG`. Always 0, without a diagnostic. -/
def execRdMacMdioConfig (s : State) : Result :=
  completeRead 0 s

/-- R86: `RD MAC.UNK6`. An undefined slot: a diagnostic, and 0. -/
def execRdMacUnk6 (s : State) : Result :=
  readUnknown .mac 6 s

/-- R86: `RD MAC.UNK7`. An undefined slot: a diagnostic, and 0. -/
def execRdMacUnk7 (s : State) : Result :=
  readUnknown .mac 7 s

/-- R86: `RD MAC.UNK8`. An undefined slot: a diagnostic, and 0. -/
def execRdMacUnk8 (s : State) : Result :=
  readUnknown .mac 8 s

/-- R86: `RD MAC.UNK9`. An undefined slot: a diagnostic, and 0. -/
def execRdMacUnk9 (s : State) : Result :=
  readUnknown .mac 9 s

/-- R86: `RD MAC.UNK10`. An undefined slot: a diagnostic, and 0. -/
def execRdMacUnk10 (s : State) : Result :=
  readUnknown .mac 10 s

/-- R86: `RD MAC.UNK11`. An undefined slot: a diagnostic, and 0. -/
def execRdMacUnk11 (s : State) : Result :=
  readUnknown .mac 11 s

/-- R86: `RD MAC.UNK12`. An undefined slot: a diagnostic, and 0. -/
def execRdMacUnk12 (s : State) : Result :=
  readUnknown .mac 12 s

/-- R86: `RD MAC.UNK13`. An undefined slot: a diagnostic, and 0. -/
def execRdMacUnk13 (s : State) : Result :=
  readUnknown .mac 13 s

/-- R86: `RD MAC.UNK14`. An undefined slot: a diagnostic, and 0. -/
def execRdMacUnk14 (s : State) : Result :=
  readUnknown .mac 14 s

/-- R86: `RD MAC.UNK15`. An undefined slot: a diagnostic, and 0. -/
def execRdMacUnk15 (s : State) : Result :=
  readUnknown .mac 15 s

/-- R87: `WR MAC.UNK0, v`. An undefined slot: a diagnostic, and nothing stored. -/
def execWrMacUnk0 (v : Word) (s : State) : Result :=
  writeUnknown .mac 0 v s

/-- R85: `WR MAC.RX_CONFIG, v`. Accepted and discarded, without a diagnostic. -/
def execWrMacRxConfig (v : Word) (s : State) : Result :=
  writeDiscarded v s

/-- R85: `WR MAC.TX_CONFIG, v`. Accepted and discarded, without a diagnostic. -/
def execWrMacTxConfig (v : Word) (s : State) : Result :=
  writeDiscarded v s

/-- R87: `WR MAC.UNK3, v`. An undefined slot: a diagnostic, and nothing stored. -/
def execWrMacUnk3 (v : Word) (s : State) : Result :=
  writeUnknown .mac 3 v s

/-- R85: `WR MAC.SPEED_CONFIG, v`. Accepted and discarded, without a diagnostic. -/
def execWrMacSpeedConfig (v : Word) (s : State) : Result :=
  writeDiscarded v s

/-- R85: `WR MAC.MDIO_CONFIG, v`. Accepted and discarded, without a diagnostic. -/
def execWrMacMdioConfig (v : Word) (s : State) : Result :=
  writeDiscarded v s

/-- R87: `WR MAC.UNK6, v`. An undefined slot: a diagnostic, and nothing stored. -/
def execWrMacUnk6 (v : Word) (s : State) : Result :=
  writeUnknown .mac 6 v s

/-- R87: `WR MAC.UNK7, v`. An undefined slot: a diagnostic, and nothing stored. -/
def execWrMacUnk7 (v : Word) (s : State) : Result :=
  writeUnknown .mac 7 v s

/-- R87: `WR MAC.UNK8, v`. An undefined slot: a diagnostic, and nothing stored. -/
def execWrMacUnk8 (v : Word) (s : State) : Result :=
  writeUnknown .mac 8 v s

/-- R87: `WR MAC.UNK9, v`. An undefined slot: a diagnostic, and nothing stored. -/
def execWrMacUnk9 (v : Word) (s : State) : Result :=
  writeUnknown .mac 9 v s

/-- R87: `WR MAC.UNK10, v`. An undefined slot: a diagnostic, and nothing stored. -/
def execWrMacUnk10 (v : Word) (s : State) : Result :=
  writeUnknown .mac 10 v s

/-- R87: `WR MAC.UNK11, v`. An undefined slot: a diagnostic, and nothing stored. -/
def execWrMacUnk11 (v : Word) (s : State) : Result :=
  writeUnknown .mac 11 v s

/-- R87: `WR MAC.UNK12, v`. An undefined slot: a diagnostic, and nothing stored. -/
def execWrMacUnk12 (v : Word) (s : State) : Result :=
  writeUnknown .mac 12 v s

/-- R87: `WR MAC.UNK13, v`. An undefined slot: a diagnostic, and nothing stored. -/
def execWrMacUnk13 (v : Word) (s : State) : Result :=
  writeUnknown .mac 13 v s

/-- R87: `WR MAC.UNK14, v`. An undefined slot: a diagnostic, and nothing stored. -/
def execWrMacUnk14 (v : Word) (s : State) : Result :=
  writeUnknown .mac 14 v s

/-- R87: `WR MAC.UNK15, v`. An undefined slot: a diagnostic, and nothing stored. -/
def execWrMacUnk15 (v : Word) (s : State) : Result :=
  writeUnknown .mac 15 v s

end Sys2Proof.Machine
end

