-- ==== Sys2Proof/Machine/RxPort.lean ====
section
/-! DEFINITION. The receive port, a stub (R122 to R124): one meaning for each of its two operations. -/

namespace Sys2Proof.Machine

/-- R122: `PORT RX_CAN_ACCEPT`. Always false. -/
def execPortRxCanAccept (s : State) : Result :=
  .next (s.reply (.canAccept false))

/-- R123: `PORT RX_DELIVER`. Always fails: the frame is dropped and nothing changes. -/
def execPortRxDeliver (_frame : List Byte) (s : State) : Result :=
  .next (s.reply .failure)

end Sys2Proof.Machine
end

