-- ==== Sys2Proof/Machine/Dispatch.lean ====
section
/-! DEFINITION. What each instruction does: one arm per row of the opcode table, each one call of its meaning. -/

namespace Sys2Proof.Machine

def exec (i : Instr) (s : State) : Host.Outcome State Fault Refusal :=
  match i with
  | .rdHostMdioCtrl => Sys2Proof.Machine.execRdHostMdioCtrl s
  | .rdHostMdioData => Sys2Proof.Machine.execRdHostMdioData s
  | .rdHostIrqMask => Sys2Proof.Machine.execRdHostIrqMask s
  | .rdHostIrqFlags => Sys2Proof.Machine.execRdHostIrqFlags s
  | .rdHostVlanMask => Sys2Proof.Machine.execRdHostVlanMask s
  | .rdHostUnk5 => Sys2Proof.Machine.execRdHostUnk5 s
  | .rdHostUnk6 => Sys2Proof.Machine.execRdHostUnk6 s
  | .rdHostUnk7 => Sys2Proof.Machine.execRdHostUnk7 s
  | .rdHostUnk8 => Sys2Proof.Machine.execRdHostUnk8 s
  | .rdHostUnk9 => Sys2Proof.Machine.execRdHostUnk9 s
  | .rdHostUnk10 => Sys2Proof.Machine.execRdHostUnk10 s
  | .rdHostUnk11 => Sys2Proof.Machine.execRdHostUnk11 s
  | .rdHostUnk12 => Sys2Proof.Machine.execRdHostUnk12 s
  | .rdHostUnk13 => Sys2Proof.Machine.execRdHostUnk13 s
  | .rdHostUnk14 => Sys2Proof.Machine.execRdHostUnk14 s
  | .rdHostRevision => Sys2Proof.Machine.execRdHostRevision s
  | .rdMacUnk0 => Sys2Proof.Machine.execRdMacUnk0 s
  | .rdMacRxConfig => Sys2Proof.Machine.execRdMacRxConfig s
  | .rdMacTxConfig => Sys2Proof.Machine.execRdMacTxConfig s
  | .rdMacUnk3 => Sys2Proof.Machine.execRdMacUnk3 s
  | .rdMacSpeedConfig => Sys2Proof.Machine.execRdMacSpeedConfig s
  | .rdMacMdioConfig => Sys2Proof.Machine.execRdMacMdioConfig s
  | .rdMacUnk6 => Sys2Proof.Machine.execRdMacUnk6 s
  | .rdMacUnk7 => Sys2Proof.Machine.execRdMacUnk7 s
  | .rdMacUnk8 => Sys2Proof.Machine.execRdMacUnk8 s
  | .rdMacUnk9 => Sys2Proof.Machine.execRdMacUnk9 s
  | .rdMacUnk10 => Sys2Proof.Machine.execRdMacUnk10 s
  | .rdMacUnk11 => Sys2Proof.Machine.execRdMacUnk11 s
  | .rdMacUnk12 => Sys2Proof.Machine.execRdMacUnk12 s
  | .rdMacUnk13 => Sys2Proof.Machine.execRdMacUnk13 s
  | .rdMacUnk14 => Sys2Proof.Machine.execRdMacUnk14 s
  | .rdMacUnk15 => Sys2Proof.Machine.execRdMacUnk15 s
  | .rdFifoIntStatus => Sys2Proof.Machine.execRdFifoIntStatus s
  | .rdFifoIntEnable => Sys2Proof.Machine.execRdFifoIntEnable s
  | .rdFifoTxReset => Sys2Proof.Machine.execRdFifoTxReset s
  | .rdFifoTxVacancy => Sys2Proof.Machine.execRdFifoTxVacancy s
  | .rdFifoTxData => Sys2Proof.Machine.execRdFifoTxData s
  | .rdFifoTxLength => Sys2Proof.Machine.execRdFifoTxLength s
  | .rdFifoRxReset => Sys2Proof.Machine.execRdFifoRxReset s
  | .rdFifoRxOccupancy => Sys2Proof.Machine.execRdFifoRxOccupancy s
  | .rdFifoRxData => Sys2Proof.Machine.execRdFifoRxData s
  | .rdFifoRxLength => Sys2Proof.Machine.execRdFifoRxLength s
  | .rdFifoUnk10 => Sys2Proof.Machine.execRdFifoUnk10 s
  | .rdFifoUnk11 => Sys2Proof.Machine.execRdFifoUnk11 s
  | .rdFifoUnk12 => Sys2Proof.Machine.execRdFifoUnk12 s
  | .rdFifoUnk13 => Sys2Proof.Machine.execRdFifoUnk13 s
  | .rdFifoUnk14 => Sys2Proof.Machine.execRdFifoUnk14 s
  | .rdFifoUnk15 => Sys2Proof.Machine.execRdFifoUnk15 s
  | .wrHostMdioCtrl v => Sys2Proof.Machine.execWrHostMdioCtrl v s
  | .wrHostMdioData v => Sys2Proof.Machine.execWrHostMdioData v s
  | .wrHostIrqMask v => Sys2Proof.Machine.execWrHostIrqMask v s
  | .wrHostIrqFlags v => Sys2Proof.Machine.execWrHostIrqFlags v s
  | .wrHostVlanMask v => Sys2Proof.Machine.execWrHostVlanMask v s
  | .wrHostUnk5 v => Sys2Proof.Machine.execWrHostUnk5 v s
  | .wrHostUnk6 v => Sys2Proof.Machine.execWrHostUnk6 v s
  | .wrHostUnk7 v => Sys2Proof.Machine.execWrHostUnk7 v s
  | .wrHostUnk8 v => Sys2Proof.Machine.execWrHostUnk8 v s
  | .wrHostUnk9 v => Sys2Proof.Machine.execWrHostUnk9 v s
  | .wrHostUnk10 v => Sys2Proof.Machine.execWrHostUnk10 v s
  | .wrHostUnk11 v => Sys2Proof.Machine.execWrHostUnk11 v s
  | .wrHostUnk12 v => Sys2Proof.Machine.execWrHostUnk12 v s
  | .wrHostUnk13 v => Sys2Proof.Machine.execWrHostUnk13 v s
  | .wrHostUnk14 v => Sys2Proof.Machine.execWrHostUnk14 v s
  | .wrHostRevision v => Sys2Proof.Machine.execWrHostRevision v s
  | .wrMacUnk0 v => Sys2Proof.Machine.execWrMacUnk0 v s
  | .wrMacRxConfig v => Sys2Proof.Machine.execWrMacRxConfig v s
  | .wrMacTxConfig v => Sys2Proof.Machine.execWrMacTxConfig v s
  | .wrMacUnk3 v => Sys2Proof.Machine.execWrMacUnk3 v s
  | .wrMacSpeedConfig v => Sys2Proof.Machine.execWrMacSpeedConfig v s
  | .wrMacMdioConfig v => Sys2Proof.Machine.execWrMacMdioConfig v s
  | .wrMacUnk6 v => Sys2Proof.Machine.execWrMacUnk6 v s
  | .wrMacUnk7 v => Sys2Proof.Machine.execWrMacUnk7 v s
  | .wrMacUnk8 v => Sys2Proof.Machine.execWrMacUnk8 v s
  | .wrMacUnk9 v => Sys2Proof.Machine.execWrMacUnk9 v s
  | .wrMacUnk10 v => Sys2Proof.Machine.execWrMacUnk10 v s
  | .wrMacUnk11 v => Sys2Proof.Machine.execWrMacUnk11 v s
  | .wrMacUnk12 v => Sys2Proof.Machine.execWrMacUnk12 v s
  | .wrMacUnk13 v => Sys2Proof.Machine.execWrMacUnk13 v s
  | .wrMacUnk14 v => Sys2Proof.Machine.execWrMacUnk14 v s
  | .wrMacUnk15 v => Sys2Proof.Machine.execWrMacUnk15 v s
  | .wrFifoIntStatus v => Sys2Proof.Machine.execWrFifoIntStatus v s
  | .wrFifoIntEnable v => Sys2Proof.Machine.execWrFifoIntEnable v s
  | .wrFifoTxReset v => Sys2Proof.Machine.execWrFifoTxReset v s
  | .wrFifoTxVacancy v => Sys2Proof.Machine.execWrFifoTxVacancy v s
  | .wrFifoTxData v => Sys2Proof.Machine.execWrFifoTxData v s
  | .wrFifoTxLength v => Sys2Proof.Machine.execWrFifoTxLength v s
  | .wrFifoRxReset v => Sys2Proof.Machine.execWrFifoRxReset v s
  | .wrFifoRxOccupancy v => Sys2Proof.Machine.execWrFifoRxOccupancy v s
  | .wrFifoRxData v => Sys2Proof.Machine.execWrFifoRxData v s
  | .wrFifoRxLength v => Sys2Proof.Machine.execWrFifoRxLength v s
  | .wrFifoUnk10 v => Sys2Proof.Machine.execWrFifoUnk10 v s
  | .wrFifoUnk11 v => Sys2Proof.Machine.execWrFifoUnk11 v s
  | .wrFifoUnk12 v => Sys2Proof.Machine.execWrFifoUnk12 v s
  | .wrFifoUnk13 v => Sys2Proof.Machine.execWrFifoUnk13 v s
  | .wrFifoUnk14 v => Sys2Proof.Machine.execWrFifoUnk14 v s
  | .wrFifoUnk15 v => Sys2Proof.Machine.execWrFifoUnk15 v s
  | .portRxCanAccept => Sys2Proof.Machine.execPortRxCanAccept s
  | .portRxDeliver frame => Sys2Proof.Machine.execPortRxDeliver frame s

end Sys2Proof.Machine
end

