-- ==== Sys2Proof/Machine/Step.lean ====
section
/-! DEFINITION. One step of the machine: take the host's next request and run it (R3, R41). -/

namespace Sys2Proof.Machine

/-- One step (R3, R40, R41): the oldest request is taken and completed, with every side effect; a refused
request has no step (R47); with nothing presented the device is idle and keeps all state (R145, log 1). -/
def step (s : State) : Host.Outcome State Fault Refusal :=
  match fetch s with
  | .idle => .next s
  | .rejected why => .refused why
  | .run i t => exec i t

/-- The table word presented as the host's next request (log 1, log 5). -/
def State.withFetchWord (s : State) (nbits w : Nat) : State :=
  s.present (.operation (tableOperation nbits w))

end Sys2Proof.Machine
end

