-- ==== Sys2Proof/Machine/Assembler.lean ====
section
/-! DEFINITION. The assembler forms (R54) and the pseudo-instructions (R55), as abstract syntax, each with
the operations it stands for (log 7). -/

namespace Sys2Proof.Machine

/-- The register names of a bank, by slot (R51). -/
def registerNames (bank : Bank) : Vector String 16 :=
  match bank with
  | .host => #v[
    "MDIO_CTRL", "MDIO_DATA", "IRQ_MASK", "IRQ_FLAGS",
    "VLAN_MASK", "UNK5", "UNK6", "UNK7",
    "UNK8", "UNK9", "UNK10", "UNK11",
    "UNK12", "UNK13", "UNK14", "REVISION"]
  | .mac => #v[
    "UNK0", "RX_CONFIG", "TX_CONFIG", "UNK3",
    "SPEED_CONFIG", "MDIO_CONFIG", "UNK6", "UNK7",
    "UNK8", "UNK9", "UNK10", "UNK11",
    "UNK12", "UNK13", "UNK14", "UNK15"]
  | .fifo => #v[
    "INT_STATUS", "INT_ENABLE", "TX_RESET", "TX_VACANCY",
    "TX_DATA", "TX_LENGTH", "RX_RESET", "RX_OCCUPANCY",
    "RX_DATA", "RX_LENGTH", "UNK10", "UNK11",
    "UNK12", "UNK13", "UNK14", "UNK15"]

/-- The descriptor of direction, bank and slot (R46, R51): `off` for a read, `0x4000 | off` for a write. -/
def registerDescriptor (dir : Dir) (bank : Bank) (slot : Nat) : BitVec 16 :=
  BitVec.ofNat 16 ((match dir with | .rd => 0 | .wr => 0x4000) +
    (match bank with | .host => 0 | .mac => 0x1000 | .fifo => 0x2000) + 4 * slot)

/-- One line of the assembler syntax (R54, R55). -/
inductive AsmLine where
  | rd (bank : Bank) (register : String)
  | wr (bank : Bank) (register : String) (v : Word)
  | rdRaw (off : BitVec 14)
  | wrRaw (off : BitVec 14) (v : Word)
  | rxCanAccept
  | rxDeliver (bytes : List Byte)
  | txReset
  | rxReset
  | fifoClr (m : Word)
  | hostClr (m : Word)
  | mdioRd (phy reg : BitVec 5)
  | mdioWr (phy reg : BitVec 5) (d : Word)
  | sendFrame (len : Word) (words : List Word)
  deriving DecidableEq, Repr

/-- The control word of an MDIO pseudo-instruction: `select | (phy << 5) | reg` (R55). -/
def mdioControlWord (select : Word) (phy reg : BitVec 5) : Word :=
  select ||| (phy.setWidth 32 <<< 5) ||| reg.setWidth 32

/-- The accesses a line stands for, in order (R54, R55). A name that is no register of its bank, and a
SENDFRAME whose words are not `ceil(len / 4)`, stand for none. -/
def AsmLine.expand (line : AsmLine) : Option (List Operation) :=
  match line with
  | .rd bank register =>
    ((registerNames bank).toList.idxOf? register).map fun slot =>
      [bareOperation (registerDescriptor .rd bank slot)]
  | .wr bank register v =>
    ((registerNames bank).toList.idxOf? register).map fun slot =>
      [writeOperation (registerDescriptor .wr bank slot) v]
  | .rdRaw off => some [bareOperation (off.setWidth 16)]
  | .wrRaw off v => some [writeOperation (0x4000#16 ||| off.setWidth 16) v]
  | .rxCanAccept => some [bareOperation 0x8000#16]
  | .rxDeliver bytes => some [⟨0x8001#16, 4, 0, bytes⟩]
  | .txReset => some [writeOperation (registerDescriptor .wr .fifo 2) resetMagic]
  | .rxReset => some [writeOperation (registerDescriptor .wr .fifo 6) resetMagic]
  | .fifoClr m => some [writeOperation (registerDescriptor .wr .fifo 0) m]
  | .hostClr m => some [writeOperation (registerDescriptor .wr .host 3) m]
  | .mdioRd phy reg => some [writeOperation (registerDescriptor .wr .host 0) (mdioControlWord 0x400#32 phy reg)]
  | .mdioWr phy reg d =>
    some [writeOperation (registerDescriptor .wr .host 1) d,
      writeOperation (registerDescriptor .wr .host 0) (mdioControlWord 0 phy reg)]
  | .sendFrame len words =>
    if words.length = wordCount len then
      some (words.map (writeOperation (registerDescriptor .wr .fifo 4)) ++
        [writeOperation (registerDescriptor .wr .fifo 5) len])
    else none

end Sys2Proof.Machine
end

