-- ==== Sys2Proof/Safety.lean ====
section
/-! DEFINITION. The terms claims are stated in: a ring's words as a list, the transmit path as two plain
queues, which accesses meet an error condition of R127, and the invariant of the device. -/

namespace Sys2Proof.Machine

/-- The words a ring holds, oldest first: what `take` of all of them would give (R64, R67). -/
def RingBuffer.contents {N : Nat} (r : RingBuffer N) : List Word := (r.take r.occ).words

/-- What `k` pops one after another give: the words, the `wasEmpty` flags, and the ring after. -/
structure PoppedMany (N : Nat) where
  words : List Word
  flags : List Bool
  ring : RingBuffer N
  deriving DecidableEq, Repr

/-- `k` successive pops (R62, R64). -/
def RingBuffer.popMany {N : Nat} (r : RingBuffer N) (k : Nat) : PoppedMany N :=
  match k with
  | 0 => ⟨[], [], r⟩
  | n + 1 =>
    let rest := r.pop.ring.popMany n
    ⟨r.pop.word :: rest.words, r.pop.wasEmpty :: rest.flags, rest.ring⟩

/-- Run instructions one after another, stopping at the first that does not complete. -/
def execAll (is : List Instr) (s : State) : Result :=
  match is with
  | [] => .next s
  | i :: rest =>
    match exec i s with
    | .next t => execAll rest t
    | .fault why => .fault why
    | .refused why => .refused why

/-- The transmit path as two unbounded queues, of length records and of data words. -/
structure TxQueues where
  lens : List Word
  words : List Word
  deriving DecidableEq, Repr

/-- What draining the queues gives: the frames sent, in order, and the queues left. -/
structure Drained where
  frames : List (List Byte)
  left : TxQueues
  deriving DecidableEq, Repr

/-- The loop of R112 on plain queues: send the head record while its words are all there, else stall. -/
def drainQueues (order : Config.FrameByteOrder) (lens words : List Word) : Drained :=
  match lens with
  | [] => ⟨[], ⟨[], words⟩⟩
  | len :: rest =>
    if words.length < wordCount len then ⟨[], ⟨len :: rest, words⟩⟩
    else
      let d := drainQueues order rest (words.drop (wordCount len))
      ⟨assembleFrame order (words.take (wordCount len)) len :: d.frames, d.left⟩

/-- The queues of the transmit path that a state's TX rings hold. -/
def txQueues (s : State) : TxQueues := ⟨s.txl.contents, s.txd.contents⟩

/-- What an instruction does to the transmit path, on plain queues: a data word is appended unless a
queue is at its bound, a length record is appended and the queues drained, TXRESET empties both, and
nothing else touches them (R26, R28, R94, R98, R100, R112). -/
def TxQueues.after (p : Config.Params) (q : TxQueues) (i : Instr) : TxQueues :=
  match i with
  | .wrFifoTxData v =>
    if q.lens.length = 15 ∨ q.words.length = 511 then q else ⟨q.lens, q.words ++ [v]⟩
  | .wrFifoTxLength v =>
    if q.lens.length = 15 then q else (drainQueues p.frameByteOrder (q.lens ++ [v]) q.words).left
  | .wrFifoTxReset v => if v = 0x000000A5#32 then ⟨[], []⟩ else q
  | _ => q

/-- The frames an instruction hands to the sink, on plain queues: only an accepted length write sends
(R111). -/
def TxQueues.framesOf (p : Config.Params) (q : TxQueues) (i : Instr) : List (List Byte) :=
  match i with
  | .wrFifoTxLength v =>
    if q.lens.length = 15 then [] else (drainQueues p.frameByteOrder (q.lens ++ [v]) q.words).frames
  | _ => []

/-- The frames among some events, in order. -/
def sentFrames (events : List Event) : List (List Byte) :=
  events.filterMap fun e =>
    match e with
    | .send frame => some frame
    | .diag _ _ _ _ => none

/-- An instruction is a bus read: its descriptor's `kind` is 00 (R46). -/
def isRead (i : Instr) : Bool := kindField (encode i).descriptor == 0

/-- The bank of a bus access, by its descriptor (R46); none for a port operation. -/
def bankOf (i : Instr) : Option Bank :=
  if kindField (encode i).descriptor = 2 then none else selectedBank (bankField (encode i).descriptor)

/-- The slot of a bus access, by its descriptor (R31). -/
def slotOf (i : Instr) : Fin 16 := (slotField (encode i).descriptor).toFin

/-- The direction of a bus access, by its descriptor (R46). -/
def dirOf (i : Instr) : Dir := if isRead i then .rd else .wr

/-- The slots the source leaves undefined, `UNK<n>` (R51, R52). -/
def undefinedSlot (bank : Bank) (slot : Fin 16) : Bool :=
  match bank with
  | .host => 5 ≤ slot && slot ≤ 14
  | .mac => !(slot == 1 || slot == 2 || slot == 4 || slot == 5)
  | .fifo => 10 ≤ slot

/-- The instruction accesses an undefined slot. -/
def touchesUndefined (i : Instr) : Bool :=
  match bankOf i with
  | some bank => undefinedSlot bank (slotOf i)
  | none => false

/-- The error condition of R127 that an access meets in a state, if any: the column "condition". -/
def errorOf (i : Instr) (s : State) : Option ErrorCode :=
  match i with
  | .wrFifoTxData _ => if s.txl.isFull || s.txd.isFull then some .txOverflow else none
  | .wrFifoTxLength _ => if s.txl.isFull then some .txOverflow else none
  | .rdFifoRxData => if s.rxd.isEmpty then some .rxUnderflow else none
  | .rdFifoRxLength => if s.rxl.isEmpty then some .rxUnderflow else none
  | .wrFifoTxReset v => if v = 0x000000A5#32 then none else some .invalidReset
  | .wrFifoRxReset v => if v = 0x000000A5#32 then none else some .invalidReset
  | _ => if touchesUndefined i then some .unknownRegister else none

/-- The invariant of the device: what holds after construction and after every access. -/
structure DeviceInv (s : State) : Prop where
  /-- R23: only the three named status bits are ever set. -/
  status_bits : s.fifoStatus &&& ~~~(mTpoe cfg ||| mRpure cfg ||| mTc cfg) = 0
  /-- R24: the enable mask lies inside `FIFO_INT_FIELD`. -/
  enable_bits : s.fifoEnable &&& ~~~cfg.fifoIntField = 0
  /-- R21, R76: host flag bit 1 is never set. -/
  host_flag1 : s.hostFlags.getLsbD 1 = false
  /-- R25, R97: no access writes the tx data mirror. -/
  shadow4_zero : s.shadow4 = 0
  /-- R25: without SHADOW_TRACKS_WRITES no access writes a shadow word. -/
  shadows_zero : cfg.shadowTracksWrites = false → s.shadow2 = 0 ∧ s.shadow5 = 0 ∧ s.shadow6 = 0
  /-- R78: without VLAN_WRITE_STORES the VLAN mask keeps its construction value. -/
  vlan_zero : cfg.vlanWriteStores = false → s.vlanMask = 0
  /-- R124: the RX data ring stays as constructed. -/
  rxd_constructed : s.rxd = .construct 512 (by decide) cfg.rxdInit
  /-- R124: the RX length ring stays as constructed. -/
  rxl_constructed : s.rxl = .construct 16 (by decide) cfg.rxlInit

end Sys2Proof.Machine
end

