-- ==== Sys2Proof/Certificates/Slice0/Obligations.lean ====
section
/-! DEFINITION. What the provers are asked to prove of the model, in the order of OBLIGATIONS.json. -/

open Sys2Proof Sys2Proof.Machine

/-- The spec's ten sample descriptors decode as its vectors E1 to E10 say.
Each descriptor of the vectors E1 to E10 decodes to the row, or to the refusal, that the vector names.
Basis: derived (spec/95_test_vectors.md Decode and refusals E1 to E10, spec/30_encoding.md section 3). -/
def Obligations.DecodedWordsAreRight : Prop :=
  decode (bareOperation 0x2014#16) = .ok .rdFifoTxLength ∧
  (∀ v, decode (writeOperation 0x6014#16 v) = .ok (.wrFifoTxLength v)) ∧
  decode (bareOperation 0xC000#16) = .error .reservedKind ∧
  decode ⟨0x2014#16, 2, 0, []⟩ = .error .narrowOrWideAccess ∧
  decode (bareOperation 0x3000#16) = .error .outsideWindow ∧
  decode (bareOperation 0x2040#16) = .error .outsideWindow ∧
  decode (bareOperation 0x2016#16) = .error .misalignedAccess ∧
  decode (bareOperation 0x8002#16) = .error .reservedPortOp ∧
  decode (bareOperation 0x8010#16) = .error .reservedPortOp ∧
  decode (bareOperation 0x103C#16) = .ok .rdMacUnk15

/-- Decoding an encoded instruction gives it back, and decode accepts nothing but encoded instructions.
For every instruction, with every operand, decode of its encoding is that instruction; and whenever an operation decodes to an instruction, the operation (with the payload parts its descriptor does not use set as the encoder sets them) is that instruction's encoding. So no two rows overlap and no bit of a descriptor or a payload is dropped. The descriptor's packing is the spec's own decision D14.
Basis: derived (spec/30_encoding.md section 1, spec/30_encoding.md section 3, spec/92_eei_decisions.md D14). -/
def Obligations.DecodeInvertsEncode : Prop :=
  (∀ i : Instr, decode (encode i) = .ok i) ∧
  (∀ (op : Operation) (i : Instr), decode op = .ok i → op.normalise = encode i)

/-- The decoder makes the checks of the decode order, stops at the first that applies, and else finds a row.
Written as arithmetic on the descriptor's number A: A >= 0xC000 is ReservedKind; a bus access of width other than 4 is NarrowOrWideAccess; then bank code 3 and then an offset past the 64-byte window are OutsideWindow; then an offset not a multiple of 4 is MisalignedAccess; every other bus access decodes to an instruction whose own descriptor is A. A port operation other than 0x8000 and 0x8001 is ReservedPortOp. The refusals and the packing are the spec's decisions D13 and D14.
Basis: derived (spec/30_encoding.md section 1, spec/92_eei_decisions.md D13, spec/92_eei_decisions.md D14). -/
def Obligations.DecodeChecksInOrder : Prop :=
  ∀ op : Operation,
    if 0xC000 ≤ op.descriptor.toNat then decode op = .error .reservedKind
    else if op.descriptor.toNat < 0x8000 then
      if op.size ≠ 4 then decode op = .error .narrowOrWideAccess
      else if op.descriptor.toNat % 0x4000 / 0x1000 = 3 then decode op = .error .outsideWindow
      else if 0x40 ≤ op.descriptor.toNat % 0x1000 then decode op = .error .outsideWindow
      else if op.descriptor.toNat % 4 ≠ 0 then decode op = .error .misalignedAccess
      else ∃ i, decode op = .ok i ∧ (encode i).descriptor = op.descriptor
    else if op.descriptor.toNat = 0x8000 then decode op = .ok .portRxCanAccept
    else if op.descriptor.toNat = 0x8001 then decode op = .ok (.portRxDeliver op.frame)
    else decode op = .error .reservedPortOp

/-- The decoder accepts exactly the operations the device admits.
An operation decodes to some instruction if and only if it is well formed, that is if and only if none of the refused encodings of section 4 applies to it. That the others are refused is the spec's decision D13.
Basis: derived (spec/30_encoding.md section 4, spec/92_eei_decisions.md D13). -/
def Obligations.AdmittedMeansWellFormed : Prop :=
  ∀ op : Operation, (∃ i, decode op = .ok i) ↔ op.wellFormed = true

/-- A bus address inside a window selects that slot of its bank, wherever the windows start.
For every base address B, a 4-byte bus access at B + 0x1000 * bank + 4 * slot decodes to the instruction whose descriptor has that direction, bank and slot, and a write carries its value; a bus access at an address below B or at B + 0x4000 and above is refused OutsideWindow. The last refusal is the spec's decision D13.
Basis: derived (spec/20_memory.md section 1, spec/30_encoding.md section 1, spec/92_eei_decisions.md D13, spec/92_eei_decisions.md D14). -/
def Obligations.BusAddressSelectsSlot : Prop :=
  (∀ (base bank slot : Nat) (v : Word), bank < 3 → slot < 16 →
    (∃ i, decodeRequest base (.bus .rd (base + 0x1000 * bank + 4 * slot) 4 v) = .ok i ∧
      encode i = bareOperation (BitVec.ofNat 16 (0x1000 * bank + 4 * slot))) ∧
    (∃ i, decodeRequest base (.bus .wr (base + 0x1000 * bank + 4 * slot) 4 v) = .ok i ∧
      encode i = writeOperation (BitVec.ofNat 16 (0x4000 + 0x1000 * bank + 4 * slot)) v)) ∧
  (∀ (base addr size : Nat) (dir : Dir) (v : Word), addr < base ∨ base + 0x4000 ≤ addr →
    decodeRequest base (.bus dir addr size v) = .error .outsideWindow)

/-- A step takes the host's oldest request and is exec of the instruction it decodes to.
When the oldest request in the inbox decodes to an instruction i, step is exec of i in the same state with that request removed from the inbox; nothing else surrounds exec. With an empty inbox the step changes nothing. The inbox is the model's own (log entry 1).
Basis: derived (spec/00_scope.md section 1, spec/20_memory.md section 4). -/
def Obligations.StepRunsDecodedInstruction : Prop :=
  (∀ (s : State) (r : Request) (rest : List Request) (i : Instr),
    s.inbox = r :: rest → decodeRequest cfg.base r = .ok i → step s = exec i { s with inbox := rest }) ∧
  (∀ s : State, s.inbox = [] → step s = .next s)

/-- A request outside the contract is refused under the reason the decode order names.
When the oldest request is refused by the decoder, the step is a refusal with that same reason. Refusing is the spec's decision D13.
Basis: derived (spec/30_encoding.md section 4, spec/92_eei_decisions.md D13). -/
def Obligations.StepRefusesInadmissibleRequest : Prop :=
  ∀ (s : State) (r : Request) (rest : List Request), s.inbox = r :: rest →
    (decodeRequest cfg.base r = .error .reservedKind → step s = .refused .reservedKind) ∧
    (decodeRequest cfg.base r = .error .narrowOrWideAccess → step s = .refused .narrowOrWideAccess) ∧
    (decodeRequest cfg.base r = .error .outsideWindow → step s = .refused .outsideWindow) ∧
    (decodeRequest cfg.base r = .error .misalignedAccess → step s = .refused .misalignedAccess) ∧
    (decodeRequest cfg.base r = .error .reservedPortOp → step s = .refused .reservedPortOp)

/-- Reads of MDIO_CTRL, MDIO_DATA, IRQ_MASK and IRQ_FLAGS return the stored field, zero-extended.
Each of the four reads has its descriptor, completes from every state, returns the number its field holds as a 32-bit word and changes nothing else (in particular reading the flags clears none); and each of the values a write stored reads back as its low bits.
Basis: stated (R70, R72, R74). -/
def Obligations.HostRegisterReads : Prop :=
  (decode (bareOperation 0x0000#16) = .ok .rdHostMdioCtrl ∧ decode (bareOperation 0x0004#16) = .ok .rdHostMdioData ∧
    decode (bareOperation 0x0008#16) = .ok .rdHostIrqMask ∧ decode (bareOperation 0x000C#16) = .ok .rdHostIrqFlags) ∧
  (∀ s : State,
    exec .rdHostMdioCtrl s =
      .next { s with replies := s.replies ++ [.value (BitVec.ofNat 32 s.mdioCtrl.toNat)] } ∧
    exec .rdHostMdioData s =
      .next { s with replies := s.replies ++ [.value (BitVec.ofNat 32 s.mdioData.toNat)] } ∧
    exec .rdHostIrqMask s =
      .next { s with replies := s.replies ++ [.value (BitVec.ofNat 32 s.hostMask.toNat)] } ∧
    exec .rdHostIrqFlags s =
      .next { s with replies := s.replies ++ [.value (BitVec.ofNat 32 s.hostFlags.toNat)] }) ∧
  (∀ (s : State) (v : Word), ∃ t u w x : State,
    exec (.wrHostMdioCtrl v) s = .next t ∧ t.mdioCtrl.toNat = v.toNat % 2048 ∧
    exec (.wrHostMdioCtrl (v ||| 0x400#32)) s = .next u ∧ u.mdioData.toNat = 0xFFFF ∧
    exec (.wrHostMdioData v) s = .next w ∧ w.mdioData.toNat = v.toNat % 65536 ∧
    exec (.wrHostIrqMask v) s = .next x ∧ x.hostMask.toNat = v.toNat % 4)

/-- WR HOST.MDIO_CTRL stores the low 11 bits and completes one MDIO transaction.
The write completes from every state: mdioCtrl becomes v mod 2^11; mdioData becomes 0xFFFF when bit 10 of v is set and stays otherwise; host flag bit 0 is set and the other flag kept; nothing else changes, whatever the PHY address and register bits are; and the host line then has the level of the new flags under the mask.
Basis: stated (R69, R71). -/
def Obligations.MdioControlWriteRunsShim : Prop :=
  ∀ (v : Word) (s : State), decode (writeOperation 0x4000#16 v) = .ok (.wrHostMdioCtrl v) ∧
    ∃ t, t =
        { s with
          mdioCtrl := BitVec.ofNat 11 v.toNat
          mdioData := if v.getLsbD 10 then 0xFFFF#16 else s.mdioData
          hostFlags := s.hostFlags ||| 1#2
          replies := s.replies ++ [.nothing] } ∧
      exec (.wrHostMdioCtrl v) s = .next t ∧
      (irqHost t = true ↔ (s.hostFlags ||| 1#2) &&& s.hostMask ≠ 0)

/-- WR HOST.MDIO_DATA stores the low 16 bits and triggers nothing.
The write completes from every state, mdioData becomes v mod 2^16 and nothing else changes; an MDIO read request after it leaves mdioData at 0xFFFF.
Basis: stated (R73). -/
def Obligations.MdioDataWrite : Prop :=
  ∀ (v : Word) (s : State), decode (writeOperation 0x4004#16 v) = .ok (.wrHostMdioData v) ∧
    ∃ t, t = { s with mdioData := BitVec.ofNat 16 v.toNat, replies := s.replies ++ [.nothing] } ∧
      exec (.wrHostMdioData v) s = .next t ∧
      ∀ c : Word, c.getLsbD 10 = true → ∃ u, exec (.wrHostMdioCtrl c) t = .next u ∧ u.mdioData = 0xFFFF#16

/-- WR HOST.IRQ_MASK stores the low 2 bits and the host line follows in the same access.
The write completes from every state, hostMask becomes v mod 4 and nothing else changes; after it the host line is asserted exactly when some flag is set whose bit of v is 1.
Basis: stated (R75). -/
def Obligations.HostMaskWrite : Prop :=
  ∀ (v : Word) (s : State), decode (writeOperation 0x4008#16 v) = .ok (.wrHostIrqMask v) ∧
    ∃ t, t = { s with hostMask := BitVec.ofNat 2 v.toNat, replies := s.replies ++ [.nothing] } ∧
      exec (.wrHostIrqMask v) s = .next t ∧
      (irqHost t = true ↔ ∃ k, k < 2 ∧ s.hostFlags.getLsbD k = true ∧ v.getLsbD k = true)

/-- WR HOST.IRQ_FLAGS clears exactly the flags whose bit is written 1, and sets none.
The write completes from every state: each of the two flags afterwards is set exactly when it was set and its bit of v is 0; nothing else changes; and the host line afterwards is asserted exactly when some flag that stays set is enabled.
Basis: stated (R77). -/
def Obligations.HostFlagsWriteOneToClear : Prop :=
  ∀ (v : Word) (s : State), decode (writeOperation 0x400C#16 v) = .ok (.wrHostIrqFlags v) ∧
    ∃ t, exec (.wrHostIrqFlags v) s = .next t ∧
      t = { s with hostFlags := t.hostFlags, replies := s.replies ++ [.nothing] } ∧
      (∀ k, k < 2 → (t.hostFlags.getLsbD k = true ↔ s.hostFlags.getLsbD k = true ∧ v.getLsbD k = false)) ∧
      (irqHost t = true ↔
        ∃ k, k < 2 ∧ s.hostFlags.getLsbD k = true ∧ v.getLsbD k = false ∧ s.hostMask.getLsbD k = true)

/-- VLAN_MASK reads its stored word; a write stores it where the configuration does, and nothing else.
The read completes from every state and returns the stored word. The write completes from every state: with VLAN_WRITE_STORES the word becomes v, without it nothing is stored; no other field changes. Without VLAN_WRITE_STORES a state of the device invariant reads 0. VLAN_WRITE_STORES is the spec's open parameter of decision D9 (log entry 3).
Basis: derived (spec/41_host_bank.md section 2, spec/92_eei_decisions.md D9). -/
def Obligations.VlanMaskReadAndWrite : Prop :=
  decode (bareOperation 0x0010#16) = .ok .rdHostVlanMask ∧
  (∀ v : Word, decode (writeOperation 0x4010#16 v) = .ok (.wrHostVlanMask v)) ∧
  (∀ s : State, exec .rdHostVlanMask s = .next { s with replies := s.replies ++ [.value s.vlanMask] }) ∧
  (∀ (v : Word) (s : State), exec (.wrHostVlanMask v) s = .next
    { s with vlanMask := if cfg.vlanWriteStores then v else s.vlanMask, replies := s.replies ++ [.nothing] }) ∧
  (∀ s : State, DeviceInv s → exec .rdHostVlanMask s = .next
    { s with replies := s.replies ++ [.value (if cfg.vlanWriteStores then s.vlanMask else 0)] })

/-- WR HOST.REVISION is ignored without a diagnostic, and a read returns the constant.
The write completes from every state and changes nothing; the read completes from every state, the one after a write included, and returns the parameter REVISION.
Basis: stated (R81). -/
def Obligations.RevisionWriteIgnored : Prop :=
  decode (bareOperation 0x003C#16) = .ok .rdHostRevision ∧
  (∀ v : Word, decode (writeOperation 0x403C#16 v) = .ok (.wrHostRevision v)) ∧
  (∀ (v : Word) (s : State), exec (.wrHostRevision v) s = .next { s with replies := s.replies ++ [.nothing] }) ∧
  (∀ s : State, exec .rdHostRevision s = .next { s with replies := s.replies ++ [.value cfg.revision] })

/-- Every undefined Host slot reads 0, discards writes and emits one diagnostic for each.
For each of the Host slots 5 to 14, the read and the write have their descriptors and complete from every state; the read returns 0, the write changes no state, and each emits exactly one UnknownRegister diagnostic with its bank, slot and direction.
Basis: stated (R82, R83). -/
def Obligations.HostUndefinedSlots : Prop :=
  (∀ row ∈ ([
      (0x0014#16, 5, .rdHostUnk5), (0x0018#16, 6, .rdHostUnk6), (0x001C#16, 7, .rdHostUnk7),
      (0x0020#16, 8, .rdHostUnk8), (0x0024#16, 9, .rdHostUnk9), (0x0028#16, 10, .rdHostUnk10),
      (0x002C#16, 11, .rdHostUnk11), (0x0030#16, 12, .rdHostUnk12), (0x0034#16, 13, .rdHostUnk13),
      (0x0038#16, 14, .rdHostUnk14)] : List (BitVec 16 × Fin 16 × Instr)),
    decode (bareOperation row.1) = .ok row.2.2 ∧
    ∀ s : State, exec row.2.2 s = .next
      { s with
        events := s.events ++ [.diag .unknownRegister .host row.2.1 .rd]
        replies := s.replies ++ [.value 0] }) ∧
  (∀ row ∈ ([
      (0x4014#16, 5, .wrHostUnk5), (0x4018#16, 6, .wrHostUnk6), (0x401C#16, 7, .wrHostUnk7),
      (0x4020#16, 8, .wrHostUnk8), (0x4024#16, 9, .wrHostUnk9), (0x4028#16, 10, .wrHostUnk10),
      (0x402C#16, 11, .wrHostUnk11), (0x4030#16, 12, .wrHostUnk12), (0x4034#16, 13, .wrHostUnk13),
      (0x4038#16, 14, .wrHostUnk14)] : List (BitVec 16 × Fin 16 × (Word → Instr))),
    ∀ v : Word, decode (writeOperation row.1 v) = .ok (row.2.2 v) ∧
    ∀ s : State, exec (row.2.2 v) s = .next
      { s with
        events := s.events ++ [.diag .unknownRegister .host row.2.1 .wr]
        replies := s.replies ++ [.nothing] })

/-- The four defined MAC slots read 0 and discard writes, without a diagnostic.
For RX_CONFIG, TX_CONFIG, SPEED_CONFIG and MDIO_CONFIG, the read and the write have their descriptors and complete from every state; the read returns 0 (after any write too, since the statement is of every state), the write changes nothing, and neither emits anything.
Basis: stated (R84, R85). -/
def Obligations.MacDefinedSlots : Prop :=
  (∀ row ∈ ([(0x1004#16, .rdMacRxConfig), (0x1008#16, .rdMacTxConfig), (0x1010#16, .rdMacSpeedConfig),
      (0x1014#16, .rdMacMdioConfig)] : List (BitVec 16 × Instr)),
    decode (bareOperation row.1) = .ok row.2 ∧
    ∀ s : State, exec row.2 s = .next { s with replies := s.replies ++ [.value 0] }) ∧
  (∀ row ∈ ([(0x5004#16, .wrMacRxConfig), (0x5008#16, .wrMacTxConfig), (0x5010#16, .wrMacSpeedConfig),
      (0x5014#16, .wrMacMdioConfig)] : List (BitVec 16 × (Word → Instr))),
    ∀ v : Word, decode (writeOperation row.1 v) = .ok (row.2 v) ∧
    ∀ s : State, exec (row.2 v) s = .next { s with replies := s.replies ++ [.nothing] })

/-- Every undefined MAC slot reads 0, discards writes and emits one diagnostic for each.
For each of the MAC slots 0, 3 and 6 to 15, the read and the write have their descriptors and complete from every state; the read returns 0, the write changes no state, and each emits exactly one UnknownRegister diagnostic. The diagnostic on this bank is the spec's decision D16.
Basis: derived (spec/42_mac_bank.md, spec/92_eei_decisions.md D16). -/
def Obligations.MacUndefinedSlots : Prop :=
  (∀ row ∈ ([
      (0x1000#16, 0, .rdMacUnk0), (0x100C#16, 3, .rdMacUnk3), (0x1018#16, 6, .rdMacUnk6),
      (0x101C#16, 7, .rdMacUnk7), (0x1020#16, 8, .rdMacUnk8), (0x1024#16, 9, .rdMacUnk9),
      (0x1028#16, 10, .rdMacUnk10), (0x102C#16, 11, .rdMacUnk11), (0x1030#16, 12, .rdMacUnk12),
      (0x1034#16, 13, .rdMacUnk13), (0x1038#16, 14, .rdMacUnk14), (0x103C#16, 15, .rdMacUnk15)] : List (BitVec 16 × Fin 16 × Instr)),
    decode (bareOperation row.1) = .ok row.2.2 ∧
    ∀ s : State, exec row.2.2 s = .next
      { s with
        events := s.events ++ [.diag .unknownRegister .mac row.2.1 .rd]
        replies := s.replies ++ [.value 0] }) ∧
  (∀ row ∈ ([
      (0x5000#16, 0, .wrMacUnk0), (0x500C#16, 3, .wrMacUnk3), (0x5018#16, 6, .wrMacUnk6),
      (0x501C#16, 7, .wrMacUnk7), (0x5020#16, 8, .wrMacUnk8), (0x5024#16, 9, .wrMacUnk9),
      (0x5028#16, 10, .wrMacUnk10), (0x502C#16, 11, .wrMacUnk11), (0x5030#16, 12, .wrMacUnk12),
      (0x5034#16, 13, .wrMacUnk13), (0x5038#16, 14, .wrMacUnk14), (0x503C#16, 15, .wrMacUnk15)] : List (BitVec 16 × Fin 16 × (Word → Instr))),
    ∀ v : Word, decode (writeOperation row.1 v) = .ok (row.2.2 v) ∧
    ∀ s : State, exec (row.2.2 v) s = .next
      { s with
        events := s.events ++ [.diag .unknownRegister .mac row.2.1 .wr]
        replies := s.replies ++ [.nothing] })

/-- INT_STATUS and INT_ENABLE read their stored words and change nothing.
Both reads have their descriptors and complete from every state, returning the stored word and changing nothing else; in a state of the device invariant the status word has no bit outside M_TPOE, M_RPURE and M_TC, and the enable word none outside FIFO_INT_FIELD. That no other status bit is ever set is the spec's own inference (10_state.md section 3).
Basis: derived (spec/43_fifo_bank.md section 2, spec/10_state.md section 3). -/
def Obligations.FifoStatusAndEnableReads : Prop :=
  (decode (bareOperation 0x2000#16) = .ok .rdFifoIntStatus ∧ decode (bareOperation 0x2004#16) = .ok .rdFifoIntEnable) ∧
  (∀ s : State,
    exec .rdFifoIntStatus s = .next { s with replies := s.replies ++ [.value s.fifoStatus] } ∧
    exec .rdFifoIntEnable s = .next { s with replies := s.replies ++ [.value s.fifoEnable] }) ∧
  (∀ s : State, DeviceInv s → ∀ k,
    (s.fifoStatus.getLsbD k = true → k = cfg.bitTpoe.val ∨ k = cfg.bitRpure.val ∨ k = cfg.bitTc.val) ∧
    (s.fifoEnable.getLsbD k = true → cfg.fifoIntField.getLsbD k = true))

/-- WR FIFO.INT_STATUS clears exactly the status bits written 1 inside FIFO_INT_FIELD.
The write completes from every state: each status bit afterwards is set exactly when it was set and not both written 1 and inside FIFO_INT_FIELD; nothing else changes, neither the enable mask nor any Host register; and the FIFO line afterwards is asserted exactly when some bit that stays set is enabled. That it is the status register that is cleared, by the constant field, is the spec's conflict C1 and decisions D2 and D3.
Basis: derived (spec/43_fifo_bank.md section 2, spec/90_conflicts.md C1, spec/92_eei_decisions.md D2, spec/92_eei_decisions.md D3). -/
def Obligations.FifoStatusWriteOneToClear : Prop :=
  ∀ (v : Word) (s : State), decode (writeOperation 0x6000#16 v) = .ok (.wrFifoIntStatus v) ∧
    ∃ t, exec (.wrFifoIntStatus v) s = .next t ∧
      t = { s with fifoStatus := t.fifoStatus, replies := s.replies ++ [.nothing] } ∧
      (∀ k, k < 32 → (t.fifoStatus.getLsbD k = true ↔
        s.fifoStatus.getLsbD k = true ∧ ¬ (v.getLsbD k = true ∧ cfg.fifoIntField.getLsbD k = true))) ∧
      (irqFifo t = true ↔
        ∃ k, k < 32 ∧ t.fifoStatus.getLsbD k = true ∧ s.fifoEnable.getLsbD k = true)

/-- WR FIFO.INT_ENABLE replaces the mask by the written value inside FIFO_INT_FIELD, and the line follows.
The write completes from every state: the enable mask becomes exactly the bits of v inside FIFO_INT_FIELD, nothing else changes, and the FIFO line afterwards is asserted exactly when some status bit is set whose bit of v is 1 inside the field.
Basis: stated (R92). -/
def Obligations.FifoEnableWrite : Prop :=
  ∀ (v : Word) (s : State), decode (writeOperation 0x6004#16 v) = .ok (.wrFifoIntEnable v) ∧
    ∃ t, exec (.wrFifoIntEnable v) s = .next t ∧
      t = { s with fifoEnable := t.fifoEnable, replies := s.replies ++ [.nothing] } ∧
      (∀ k, k < 32 → t.fifoEnable.getLsbD k = (v.getLsbD k && cfg.fifoIntField.getLsbD k)) ∧
      (irqFifo t = true ↔ ∃ k, k < 32 ∧ s.fifoStatus.getLsbD k = true ∧ v.getLsbD k = true ∧
        cfg.fifoIntField.getLsbD k = true)

/-- Reads of TX_RESET, TX_DATA, TX_LENGTH and RX_RESET return the stored shadow word and pop nothing.
The four reads have their descriptors, complete from every state, return their stored shadow word and change nothing else. In a state of the device invariant TX_DATA reads 0, and without SHADOW_TRACKS_WRITES the other three read 0 too. SHADOW_TRACKS_WRITES is the open parameter of the spec's decision D8 (log entry 3).
Basis: derived (spec/43_fifo_bank.md section 2, spec/90_conflicts.md C4, spec/92_eei_decisions.md D8). -/
def Obligations.ShadowReads : Prop :=
  (decode (bareOperation 0x2008#16) = .ok .rdFifoTxReset ∧ decode (bareOperation 0x2010#16) = .ok .rdFifoTxData ∧
    decode (bareOperation 0x2014#16) = .ok .rdFifoTxLength ∧ decode (bareOperation 0x2018#16) = .ok .rdFifoRxReset) ∧
  (∀ s : State,
    exec .rdFifoTxReset s = .next { s with replies := s.replies ++ [.value s.shadow2] } ∧
    exec .rdFifoTxData s = .next { s with replies := s.replies ++ [.value s.shadow4] } ∧
    exec .rdFifoTxLength s = .next { s with replies := s.replies ++ [.value s.shadow5] } ∧
    exec .rdFifoRxReset s = .next { s with replies := s.replies ++ [.value s.shadow6] }) ∧
  (∀ s : State, DeviceInv s → exec .rdFifoTxData s = .next { s with replies := s.replies ++ [.value 0] }) ∧
  (∀ s : State, DeviceInv s →
    exec .rdFifoTxReset s = .next
      { s with replies := s.replies ++ [.value (if cfg.shadowTracksWrites then s.shadow2 else 0)] } ∧
    exec .rdFifoTxLength s = .next
      { s with replies := s.replies ++ [.value (if cfg.shadowTracksWrites then s.shadow5 else 0)] } ∧
    exec .rdFifoRxReset s = .next
      { s with replies := s.replies ++ [.value (if cfg.shadowTracksWrites then s.shadow6 else 0)] })

/-- WR FIFO.TX_RESET of 0xA5 zeroes both TX rings' indices; any other word resets nothing.
The write completes from every state. If the whole word is 0x000000A5, both indices of both TX rings become 0 and their storage stays; otherwise the rings stay. The shadow word becomes v where SHADOW_TRACKS_WRITES says so. Nothing else changes: no status bit, no enable bit, no RX ring, no event. The whole-word comparison is the spec's decision D21, the shadow its open parameter of D8.
Basis: derived (spec/43_fifo_bank.md section 2, spec/92_eei_decisions.md D21, spec/92_eei_decisions.md D8). -/
def Obligations.TxResetWrite : Prop :=
  ∀ (v : Word) (s : State), decode (writeOperation 0x6008#16 v) = .ok (.wrFifoTxReset v) ∧
    exec (.wrFifoTxReset v) s = .next
      { s with
        txd := if v.toNat = 0xA5 then { s.txd with pushIdx := 0, popIdx := 0 } else s.txd
        txl := if v.toNat = 0xA5 then { s.txl with pushIdx := 0, popIdx := 0 } else s.txl
        shadow2 := if cfg.shadowTracksWrites then v else s.shadow2
        replies := s.replies ++ [.nothing] }

/-- WR FIFO.RX_RESET of 0xA5 zeroes both RX rings' indices; any other word resets nothing.
The write completes from every state. If the whole word is 0x000000A5, both indices of both RX rings become 0 and their storage stays; otherwise the rings stay. The shadow word becomes v where SHADOW_TRACKS_WRITES says so. Nothing else changes. In a state of the device invariant the indices are already 0, so the RX rings do not change at all. The whole-word comparison is the spec's decision D21 (log entry 10), the shadow its open parameter of D8.
Basis: derived (spec/43_fifo_bank.md section 2, spec/92_eei_decisions.md D21, spec/92_eei_decisions.md D8). -/
def Obligations.RxResetWrite : Prop :=
  ∀ (v : Word) (s : State), decode (writeOperation 0x6018#16 v) = .ok (.wrFifoRxReset v) ∧
    ∃ t, t =
      { s with
        rxd := if v.toNat = 0xA5 then { s.rxd with pushIdx := 0, popIdx := 0 } else s.rxd
        rxl := if v.toNat = 0xA5 then { s.rxl with pushIdx := 0, popIdx := 0 } else s.rxl
        shadow6 := if cfg.shadowTracksWrites then v else s.shadow6
        replies := s.replies ++ [.nothing] } ∧
      exec (.wrFifoRxReset v) s = .next t ∧
      (DeviceInv s → t.rxd = s.rxd ∧ t.rxl = s.rxl)

/-- RD FIFO.TX_VACANCY returns 511 less the TX data occupancy, or 0 when the length ring is full.
The read has its descriptor and completes from every state, changing nothing else: the number returned is 0 when the TX length ring is full, and otherwise 511 minus the TX data ring's occupancy, which is at most 511, so that it counts the free places; on the state after construction it is 511.
Basis: stated (R88, R95). -/
def Obligations.TxVacancyRead : Prop :=
  decode (bareOperation 0x200C#16) = .ok .rdFifoTxVacancy ∧
  (∀ s : State, ∃ w : Word,
    exec .rdFifoTxVacancy s = .next { s with replies := s.replies ++ [.value w] } ∧
    s.txd.contents.length ≤ 511 ∧
    w.toNat = if (s.txl.pushIdx.val + 1) % 16 = s.txl.popIdx.val then 0 else 511 - s.txd.contents.length) ∧
  exec .rdFifoTxVacancy State.reset = .next { State.reset with replies := [.value 0x000001FF#32] }

/-- Writes to TX_VACANCY, RX_OCCUPANCY, RX_DATA and RX_LENGTH are accepted and discarded.
The four writes have their descriptors, complete from every state with every value, change nothing and emit no diagnostic.
Basis: stated (R96, R104, R106, R108). -/
def Obligations.DiscardedFifoWrites : Prop :=
  ∀ row ∈ ([(0x600C#16, .wrFifoTxVacancy), (0x601C#16, .wrFifoRxOccupancy), (0x6020#16, .wrFifoRxData),
      (0x6024#16, .wrFifoRxLength)] : List (BitVec 16 × (Word → Instr))),
    ∀ v : Word, decode (writeOperation row.1 v) = .ok (row.2 v) ∧
    ∀ s : State, exec (row.2 v) s = .next { s with replies := s.replies ++ [.nothing] }

/-- WR FIFO.TX_DATA pushes the word, or sets M_TPOE and discards it when a TX ring is full.
The write completes from every state. If advancing the push index of the TX length ring or of the TX data ring would reach its pop index, only M_TPOE is set and the word is discarded. Otherwise the word is stored at the push index, which advances by one modulo 512, and nothing else changes; no frame is sent.
Basis: stated (R98). -/
def Obligations.TxDataWrite : Prop :=
  ∀ (v : Word) (s : State), decode (writeOperation 0x6010#16 v) = .ok (.wrFifoTxData v) ∧
    exec (.wrFifoTxData v) s = .next
      (if (s.txl.pushIdx.val + 1) % 16 = s.txl.popIdx.val ∨ (s.txd.pushIdx.val + 1) % 512 = s.txd.popIdx.val then
        { s with fifoStatus := s.fifoStatus ||| mTpoe cfg, replies := s.replies ++ [.nothing] }
      else
        { s with
          txd := ⟨s.txd.mem.set s.txd.pushIdx.val v, Fin.ofNat 512 (s.txd.pushIdx.val + 1), s.txd.popIdx⟩
          replies := s.replies ++ [.nothing] })

/-- WR FIFO.TX_LENGTH overflows on a full length ring, and else pushes the record and runs the pipeline.
The write completes from every state. If the TX length ring is full, M_TPOE is set, the value is discarded and the pipeline does not run. Otherwise the value is stored at the push index, which advances by one modulo 16, and the Transmit Pipeline runs on that state. Either way the shadow word becomes v where SHADOW_TRACKS_WRITES says so.
Basis: stated (R100). -/
def Obligations.TxLengthWrite : Prop :=
  ∀ (v : Word) (s : State), decode (writeOperation 0x6014#16 v) = .ok (.wrFifoTxLength v) ∧
    ∃ t, t =
        (if (s.txl.pushIdx.val + 1) % 16 = s.txl.popIdx.val then
          { s with fifoStatus := s.fifoStatus ||| mTpoe cfg }
        else
          txPipeline cfg { s with
            txl := ⟨s.txl.mem.set s.txl.pushIdx.val v, Fin.ofNat 16 (s.txl.pushIdx.val + 1), s.txl.popIdx⟩ }) ∧
      exec (.wrFifoTxLength v) s = .next
        { t with
          shadow5 := if cfg.shadowTracksWrites then v else s.shadow5
          replies := s.replies ++ [.nothing] }

/-- RD FIFO.RX_OCCUPANCY returns the RX data ring's occupancy, which is 0 in this device.
The read has its descriptor and completes from every state, changing nothing else; the number returned is (push - pop) mod 512 of the RX data ring; in a state of the device invariant it is 0. That the ring stays empty is the spec's own inference (45_rx_port.md).
Basis: derived (spec/43_fifo_bank.md section 2, spec/45_rx_port.md). -/
def Obligations.RxOccupancyRead : Prop :=
  decode (bareOperation 0x201C#16) = .ok .rdFifoRxOccupancy ∧
  (∀ s : State, ∃ w : Word,
    exec .rdFifoRxOccupancy s = .next { s with replies := s.replies ++ [.value w] } ∧
    (w.toNat : Int) = ((s.rxd.pushIdx.val : Int) - s.rxd.popIdx.val) % 512) ∧
  (∀ s : State, DeviceInv s → exec .rdFifoRxOccupancy s = .next { s with replies := s.replies ++ [.value 0] })

/-- RD FIFO.RX_DATA and RX_LENGTH pop one word, or return the stale word and set M_RPURE when empty.
Both reads have their descriptors and complete from every state. Each returns the word at its own ring's pop index. If that ring is not empty its pop index advances by one and nothing else changes; if it is empty only M_RPURE is set. In a state of the device invariant each ring is empty and the word is the construction content of position 0. That the rings stay empty is the spec's own inference (45_rx_port.md).
Basis: derived (spec/43_fifo_bank.md section 2, spec/45_rx_port.md). -/
def Obligations.RxPopReads : Prop :=
  (decode (bareOperation 0x2020#16) = .ok .rdFifoRxData ∧ decode (bareOperation 0x2024#16) = .ok .rdFifoRxLength) ∧
  (∀ s : State,
    exec .rdFifoRxData s = .next
      { s with
        fifoStatus := if s.rxd.pushIdx = s.rxd.popIdx then s.fifoStatus ||| mRpure cfg else s.fifoStatus
        rxd := if s.rxd.pushIdx = s.rxd.popIdx then s.rxd
          else { s.rxd with popIdx := Fin.ofNat 512 (s.rxd.popIdx.val + 1) }
        replies := s.replies ++ [.value s.rxd.mem[s.rxd.popIdx.val]] } ∧
    exec .rdFifoRxLength s = .next
      { s with
        fifoStatus := if s.rxl.pushIdx = s.rxl.popIdx then s.fifoStatus ||| mRpure cfg else s.fifoStatus
        rxl := if s.rxl.pushIdx = s.rxl.popIdx then s.rxl
          else { s.rxl with popIdx := Fin.ofNat 16 (s.rxl.popIdx.val + 1) }
        replies := s.replies ++ [.value s.rxl.mem[s.rxl.popIdx.val]] }) ∧
  (∀ s : State, DeviceInv s →
    exec .rdFifoRxData s = .next
      { s with fifoStatus := s.fifoStatus ||| mRpure cfg, replies := s.replies ++ [.value (cfg.rxdInit 0)] } ∧
    exec .rdFifoRxLength s = .next
      { s with fifoStatus := s.fifoStatus ||| mRpure cfg, replies := s.replies ++ [.value (cfg.rxlInit 0)] })

/-- Every undefined FIFO slot reads 0, discards writes and emits one diagnostic for each.
For each of the FIFO slots 10 to 15, the read and the write have their descriptors and complete from every state; the read returns 0, the write changes no state whatever the value, and each emits exactly one UnknownRegister diagnostic with its bank, slot and direction.
Basis: stated (R109, R110). -/
def Obligations.FifoUndefinedSlots : Prop :=
  (∀ row ∈ ([
      (0x2028#16, 10, .rdFifoUnk10), (0x202C#16, 11, .rdFifoUnk11), (0x2030#16, 12, .rdFifoUnk12),
      (0x2034#16, 13, .rdFifoUnk13), (0x2038#16, 14, .rdFifoUnk14), (0x203C#16, 15, .rdFifoUnk15)] : List (BitVec 16 × Fin 16 × Instr)),
    decode (bareOperation row.1) = .ok row.2.2 ∧
    ∀ s : State, exec row.2.2 s = .next
      { s with
        events := s.events ++ [.diag .unknownRegister .fifo row.2.1 .rd]
        replies := s.replies ++ [.value 0] }) ∧
  (∀ row ∈ ([
      (0x6028#16, 10, .wrFifoUnk10), (0x602C#16, 11, .wrFifoUnk11), (0x6030#16, 12, .wrFifoUnk12),
      (0x6034#16, 13, .wrFifoUnk13), (0x6038#16, 14, .wrFifoUnk14), (0x603C#16, 15, .wrFifoUnk15)] : List (BitVec 16 × Fin 16 × (Word → Instr))),
    ∀ v : Word, decode (writeOperation row.1 v) = .ok (row.2.2 v) ∧
    ∀ s : State, exec (row.2.2 v) s = .next
      { s with
        events := s.events ++ [.diag .unknownRegister .fifo row.2.1 .wr]
        replies := s.replies ++ [.nothing] })

/-- RX_CAN_ACCEPT answers false and RX_DELIVER fails, from every state, and neither changes anything.
Both port operations have their descriptors and complete from every state; the first answers false; the second fails for every byte sequence, the empty one included; no ring, register, status bit or event changes.
Basis: stated (R122, R123). -/
def Obligations.ReceivePortIsStub : Prop :=
  (decode (bareOperation 0x8000#16) = .ok .portRxCanAccept ∧
    ∀ frame : List Byte, decode ⟨0x8001#16, 4, 0, frame⟩ = .ok (.portRxDeliver frame)) ∧
  (∀ s : State, exec .portRxCanAccept s = .next { s with replies := s.replies ++ [.canAccept false] }) ∧
  (∀ (frame : List Byte) (s : State),
    exec (.portRxDeliver frame) s = .next { s with replies := s.replies ++ [.failure] })

/-- Occupancy is the modular index difference, below N, and a ring is full exactly at N - 1.
For every ring of every capacity: the occupancy is the least non-negative residue of push minus pop, is below N, is push - pop when the indices have not wrapped and push + N - pop when they have; the ring is full exactly when advancing the push index would reach the pop index, and exactly when it holds N - 1 words; it is empty exactly when the indices agree, and exactly when it holds none. That full means N - 1 words is the spec's own inference.
Basis: derived (spec/40_ring_buffer.md). -/
def Obligations.RingOccupancyTests : Prop :=
  ∀ (N : Nat) (r : RingBuffer N),
    (r.occ : Int) = ((r.pushIdx.val : Int) - r.popIdx.val) % N ∧ r.occ < N ∧
    (r.popIdx.val ≤ r.pushIdx.val → r.occ = r.pushIdx.val - r.popIdx.val) ∧
    (r.pushIdx.val < r.popIdx.val → r.occ = r.pushIdx.val + N - r.popIdx.val) ∧
    (r.isFull = true ↔ (r.pushIdx.val + 1) % N = r.popIdx.val) ∧ (r.isFull = true ↔ r.occ = N - 1) ∧
    (r.isEmpty = true ↔ r.pushIdx = r.popIdx) ∧ (r.isEmpty = true ↔ r.occ = 0)

/-- Push stores at the push index and advances it; pop returns the word at the pop index and advances if it can.
For every ring of every capacity: a push stores the word at the old push index, leaves every other position and the pop index, and advances the push index by one modulo N. A pop returns the word at the pop index, says whether the ring was empty, leaves the storage and the push index, and advances the pop index by one modulo N exactly when the ring was not empty.
Basis: stated (R61, R62). -/
def Obligations.RingPushAndPop : Prop :=
  ∀ (N : Nat) (r : RingBuffer N),
    (∀ v : Word, (r.push v).popIdx = r.popIdx ∧ (r.push v).pushIdx.val = (r.pushIdx.val + 1) % N ∧
      ∀ k (h : k < N), (r.push v).mem[k] = if k = r.pushIdx.val then v else r.mem[k]) ∧
    (r.pop.word = r.mem[r.popIdx.val] ∧ (r.pop.wasEmpty = true ↔ r.pushIdx = r.popIdx) ∧
      r.pop.ring.mem = r.mem ∧ r.pop.ring.pushIdx = r.pushIdx ∧
      r.pop.ring.popIdx.val = if r.pushIdx = r.popIdx then r.popIdx.val else (r.popIdx.val + 1) % N)

/-- Taking k words that are there is k successive pops, none of them of an empty ring.
For every ring of every capacity and every k up to its occupancy: take gives k words, the i-th the word i places after the pop index modulo N, advances the pop index by k modulo N and leaves storage and push index; and that is exactly what k pops one after another give, each with wasEmpty false. The equality with k pops is the spec's own inference.
Basis: derived (spec/40_ring_buffer.md). -/
def Obligations.RingTakeIsRepeatedPop : Prop :=
  ∀ (N : Nat) (r : RingBuffer N) (k : Nat), k ≤ r.occ →
    (r.take k).words.length = k ∧
    (∀ i (hN : 0 < N), i < k → (r.take k).words[i]? = some (r.mem[(r.popIdx.val + i) % N]'(Nat.mod_lt _ hN))) ∧
    (r.take k).ring.mem = r.mem ∧ (r.take k).ring.pushIdx = r.pushIdx ∧
    (r.take k).ring.popIdx.val = (r.popIdx.val + k) % N ∧
    r.popMany k = ⟨(r.take k).words, List.replicate k false, (r.take k).ring⟩

/-- Clear zeroes both indices and keeps the storage.
For every ring of every capacity: after clear both indices are 0, the storage is as before, and the ring is empty.
Basis: stated (R65). -/
def Obligations.RingClear : Prop :=
  ∀ (N : Nat) (r : RingBuffer N),
    r.clear.pushIdx.val = 0 ∧ r.clear.popIdx.val = 0 ∧ r.clear.mem = r.mem ∧ r.clear.occ = 0

/-- A ring is a first-in first-out queue: push appends, pop and take remove from the front, clear empties.
For every ring of every capacity, with its words listed oldest first: a push of a ring that is not full appends the word and loses none; a pop of a ring that is not empty returns the first word and leaves the rest; a pop of an empty ring leaves the ring unchanged; taking k words that are there returns the first k and leaves the rest; clear leaves none. The spec marks these laws as derived from its ring rules.
Basis: derived (spec/40_ring_buffer.md occupancy laws, spec/40_ring_buffer.md order law). -/
def Obligations.RingKeepsOrder : Prop :=
  ∀ (N : Nat) (r : RingBuffer N),
    (∀ v : Word, r.isFull = false → (r.push v).contents = r.contents ++ [v]) ∧
    (r.isEmpty = false → r.contents = r.pop.word :: r.pop.ring.contents) ∧
    (r.isEmpty = true → r.pop.ring = r) ∧
    (∀ k, k ≤ r.occ → (r.take k).words = r.contents.take k ∧ (r.take k).ring.contents = r.contents.drop k) ∧
    r.clear.contents = []

/-- A frame is the first len bytes of its words, each word's four bytes in the configured order.
With MSB_FIRST a word gives its bytes from bits 31:24 down to 7:0, with LSB_FIRST the reverse. For a length and exactly ceil(length / 4) words, the assembled frame has length bytes, its byte j is byte j mod 4 (in that order) of word j / 4, and 4 * words - length is at most 3.
Basis: stated (R115, R116). -/
def Obligations.FrameAssembly : Prop :=
  (∀ w : Word,
    bytesOf .msbFirst w = [BitVec.ofNat 8 (w.toNat / 2 ^ 24), BitVec.ofNat 8 (w.toNat / 2 ^ 16),
      BitVec.ofNat 8 (w.toNat / 2 ^ 8), BitVec.ofNat 8 w.toNat] ∧
    bytesOf .lsbFirst w = (bytesOf .msbFirst w).reverse) ∧
  (∀ (order : Config.FrameByteOrder) (words : List Word) (len : Word), words.length = wordCount len →
    (assembleFrame order words len).length = len.toNat ∧
    4 * words.length - len.toNat ≤ 3 ∧ len.toNat ≤ 4 * words.length ∧
    ∀ j, j < len.toNat →
      (assembleFrame order words len)[j]? = words[j / 4]?.bind fun w => (bytesOf order w)[j % 4]?)

/-- A record's word count is the exact ceiling of its length over 4, for every 32-bit length.
wordCount(len) is the least k with len at most 4k, also at the top of the 32-bit range, where it is 0x40000000. That it does not wrap is the spec's decision D6.
Basis: derived (spec/44_tx_pipeline.md section 2, spec/92_eei_decisions.md D6). -/
def Obligations.WordCountIsExactCeiling : Prop :=
  (∀ len : Word, len.toNat ≤ 4 * wordCount len ∧ ∀ k, len.toNat ≤ 4 * k → wordCount len ≤ k) ∧
  wordCount 0xFFFFFFFF#32 = 0x40000000

/-- The Transmit Pipeline on rings does exactly what draining two plain queues does.
For every configuration and every state, reading the TX rings as lists of words in order: a pipeline run sends the frames, in order, that draining the list of lengths against the list of words sends; the rings then hold what draining leaves (a stalled record and its words stay); M_TC is set exactly when no record is left; and nothing else changes, neither the storage nor the push indices of the rings nor any register. Stalling and M_TC on a stalled run are the spec's decisions D4 and D5. That the word count of a length does not wrap is its decision D6 (the three stand in log entry 8).
Basis: derived (spec/44_tx_pipeline.md section 2, spec/44_tx_pipeline.md section 4, spec/92_eei_decisions.md D4, spec/92_eei_decisions.md D5, spec/92_eei_decisions.md D6). -/
def Obligations.PipelineDrainsQueues : Prop :=
  ∀ (p : Config.Params) (s : State) (d : Drained),
    d = drainQueues p.frameByteOrder s.txl.contents s.txd.contents →
    txQueues (txPipeline p s) = d.left ∧
    txPipeline p s =
      { s with
        txl := { s.txl with popIdx := (txPipeline p s).txl.popIdx }
        txd := { s.txd with popIdx := (txPipeline p s).txd.popIdx }
        events := s.events ++ d.frames.map Event.send
        fifoStatus := if d.left.lens = [] then s.fifoStatus ||| mTc p else s.fifoStatus }

/-- Every instruction acts on the TX rings as it acts on two plain queues, and sends exactly their frames.
For every instruction and every state, exec completes, the words and records the TX rings then hold are what the instruction makes of the two queues they held before (append, drain, empty or leave alone), and the frames sent in the access are exactly the queues' frames, in order. So a frame is sent by an accepted length write and by nothing else. Stalling and the whole-word reset magic are the spec's decisions D4 and D21. So is the word count that does not wrap, D6 (log entries 8 and 10).
Basis: derived (spec/10_state.md section 4, spec/43_fifo_bank.md section 2, spec/44_tx_pipeline.md section 2, spec/92_eei_decisions.md D4, spec/92_eei_decisions.md D21, spec/92_eei_decisions.md D6). -/
def Obligations.TransmitPathRefinesQueues : Prop :=
  ∀ (i : Instr) (s : State), ∃ t, exec i s = .next t ∧
    txQueues t = (txQueues s).after cfg i ∧
    sentFrames t.events = sentFrames s.events ++ (txQueues s).framesOf cfg i

/-- An accepted length write is one pipeline run after its push; nothing else sends a frame or sets M_TC.
An accepted length write is exactly one pipeline run on the state whose length ring has the value pushed (and then the shadow word and the reply); whenever any instruction adds a frame to the events or sets a status bit M_TC that was clear, it is a length write on a length ring that was not full. An idle step sends nothing. That a step with an empty inbox is idle is the model's choice (log entry 1), and the shadow word follows the spec's open parameter of decision D8 (log entry 3), not the trigger rule.
Basis: derived (spec/44_tx_pipeline.md section 1, spec/43_fifo_bank.md section 2, spec/92_eei_decisions.md D8). -/
def Obligations.LengthWriteFrame : Prop :=
  (∀ (v : Word) (s : State), s.txl.isFull = false →
    exec (.wrFifoTxLength v) s = .next
      { txPipeline cfg { s with txl := s.txl.push v } with
        shadow5 := if cfg.shadowTracksWrites then v else s.shadow5
        replies := s.replies ++ [.nothing] }) ∧
  (∀ (i : Instr) (s t : State), exec i s = .next t →
    (sentFrames t.events ≠ sentFrames s.events ∨
      (s.fifoStatus.getLsbD cfg.bitTc.val = false ∧ t.fifoStatus.getLsbD cfg.bitTc.val = true)) →
    ∃ v, i = .wrFifoTxLength v ∧ s.txl.isFull = false) ∧
  (∀ s : State, s.inbox = [] → step s = .next s)

/-- With its words present and no record queued, a length write sends one frame of that length and sets M_TC.
From every state whose TX length ring is empty and whose TX data ring holds exactly ceil(len / 4) words, WR FIFO.TX_LENGTH of len completes: exactly one frame is sent, assembled from those words and len bytes long; both rings are then empty; M_TC is set; and no other register changes but the shadow word.
Basis: derived (spec/95_test_vectors.md property Q4, spec/44_tx_pipeline.md section 2, spec/44_tx_pipeline.md section 4). -/
def Obligations.LockStepLengthWriteSendsOneFrame : Prop :=
  ∀ (len : Word) (s : State), s.txl.isEmpty = true → s.txd.contents.length = wordCount len →
    ∃ t, exec (.wrFifoTxLength len) s = .next t ∧
      t.events = s.events ++ [.send (assembleFrame cfg.frameByteOrder s.txd.contents len)] ∧
      (assembleFrame cfg.frameByteOrder s.txd.contents len).length = len.toNat ∧
      t.txl.isEmpty = true ∧ t.txd.isEmpty = true ∧
      t = { s with
        txl := t.txl, txd := t.txd, events := t.events
        fifoStatus := s.fifoStatus ||| mTc cfg
        shadow5 := if cfg.shadowTracksWrites then len else s.shadow5
        replies := s.replies ++ [.nothing] }

/-- The accesses of SENDFRAME, taken one a step from empty TX rings, send exactly that frame.
For every length and every list of ceil(length / 4) words, at most 511, and every state with empty TX rings whose inbox begins with the accesses SENDFRAME stands for: as many steps as there are accesses end in a next state; one frame was sent, the one assembled from the words; both TX rings are empty; M_TC is set; and only those requests are gone from the inbox. The expansion of SENDFRAME is the spec's decision D15. The inbox is the model's own field (log entry 1).
Basis: derived (spec/30_encoding.md section 5, spec/70_reset_and_hazards.md section 2, spec/44_tx_pipeline.md section 2, spec/92_eei_decisions.md D15). -/
def Obligations.SendFrameReachesSink : Prop :=
  ∀ (len : Word) (words : List Word) (ops : List Operation) (rest : List Request) (s : State),
    words.length = wordCount len → words.length ≤ 511 →
    (AsmLine.sendFrame len words).expand = some ops →
    s.txl.isEmpty = true → s.txd.isEmpty = true →
    s.inbox = ops.map Request.operation ++ rest →
    ∃ t, Sys2Proof.core.run ops.length s = .next t ∧
      t.events = s.events ++ [.send (assembleFrame cfg.frameByteOrder words len)] ∧
      t.txl.isEmpty = true ∧ t.txd.isEmpty = true ∧
      t.fifoStatus = s.fifoStatus ||| mTc cfg ∧ t.inbox = rest

/-- Each pseudo-instruction stands for the accesses the spec lists for it.
TXRESET, RXRESET, FIFOCLR, HOSTCLR, MDIORD and MDIOWR expand to the accesses of the table, whose control word has the read select, the PHY address and the register in their fields; SENDFRAME expands to one data write a word and then the length write when the words are ceil(length / 4), and to nothing otherwise. The expansions are the spec's decision D15; that SENDFRAME with another number of words stands for nothing is the model's own choice (log entry 7), since the spec gives no expansion for that line.
Basis: derived (spec/30_encoding.md section 5, spec/92_eei_decisions.md D15). -/
def Obligations.PseudoInstructionsExpand : Prop :=
  AsmLine.txReset.expand = some [encode (.wrFifoTxReset 0xA5#32)] ∧
  AsmLine.rxReset.expand = some [encode (.wrFifoRxReset 0xA5#32)] ∧
  (∀ m, (AsmLine.fifoClr m).expand = some [encode (.wrFifoIntStatus m)]) ∧
  (∀ m, (AsmLine.hostClr m).expand = some [encode (.wrHostIrqFlags m)]) ∧
  (∀ phy reg, (AsmLine.mdioRd phy reg).expand =
    some [encode (.wrHostMdioCtrl (BitVec.ofNat 32 (0x400 + 32 * phy.toNat + reg.toNat)))]) ∧
  (∀ phy reg d, (AsmLine.mdioWr phy reg d).expand =
    some [encode (.wrHostMdioData d), encode (.wrHostMdioCtrl (BitVec.ofNat 32 (32 * phy.toNat + reg.toNat)))]) ∧
  (∀ len words, (AsmLine.sendFrame len words).expand =
    if words.length = wordCount len then
      some (words.map (fun w => encode (.wrFifoTxData w)) ++ [encode (.wrFifoTxLength len)]) else none)

/-- Every instruction answers a next state from every state, with one reply; none faults or is refused.
From every state, reachable or not, every instruction completes: exec answers a next state in which exactly one reply was added, events were only added at the end, and the host's remaining requests are untouched. A step never faults, and is refused only for a request the decoder refuses.
Basis: stated (R126). -/
def Obligations.EveryInstructionCompletes : Prop :=
  (∀ (i : Instr) (s : State), ∃ (t : State) (r : Reply) (es : List Event), exec i s = .next t ∧
    t.replies = s.replies ++ [r] ∧ t.events = s.events ++ es ∧ t.inbox = s.inbox) ∧
  (∀ (s : State) (r : Request) (rest : List Request) (i : Instr), s.inbox = r :: rest →
    decodeRequest cfg.base r = .ok i → ∃ t, step s = .next t)

/-- Every step keeps the device invariant.
If the device invariant holds and a step answers a next state, the invariant holds there: only the three named status bits are set; the enable mask lies inside FIFO_INT_FIELD; host flag bit 1 is clear; the TX data mirror is 0; without SHADOW_TRACKS_WRITES the other shadow words are 0, and without VLAN_WRITE_STORES the VLAN mask; both RX rings are as constructed. That flag bit 1 is never set is the spec's decision D23 (log entry 9), the two settings its open parameters of D8 and D9 (log entry 3), and the construction values it rests on its decision D10 (log entry 6).
Basis: derived (spec/10_state.md section 2, spec/10_state.md section 3, spec/45_rx_port.md, spec/92_eei_decisions.md D1, spec/92_eei_decisions.md D23). -/
def Obligations.StepKeepsDeviceInvariant : Prop :=
  ∀ s t : State, DeviceInv s → step s = .next t → DeviceInv t

/-- The device invariant holds after construction.
The state after construction meets the device invariant. Its register values are the spec's decision D10.
Basis: derived (spec/10_state.md section 5, spec/92_eei_decisions.md D10). -/
def Obligations.ResetMeetsDeviceInvariant : Prop :=
  DeviceInv State.reset

/-- After construction every register is 0, every ring is empty at indices 0, and all lines are low.
At reset: the eleven register words are 0 (the spec's decision D10); the four rings have both indices 0 and their storage is the construction parameters (D11); the three interrupt lines are deasserted; nothing has been emitted or returned and no request is held: those three lists are the model's own fields and their empty reset values its choice (log entries 1 and 2). The register values stand in log entry 6, the storage in log entry 3.
Basis: derived (spec/10_state.md section 5, spec/70_reset_and_hazards.md section 1, spec/92_eei_decisions.md D10, spec/92_eei_decisions.md D11). -/
def Obligations.ConstructionState : Prop :=
  (State.reset.mdioCtrl = 0 ∧ State.reset.mdioData = 0 ∧ State.reset.hostMask = 0 ∧ State.reset.hostFlags = 0 ∧
    State.reset.vlanMask = 0 ∧ State.reset.fifoStatus = 0 ∧ State.reset.fifoEnable = 0 ∧ State.reset.shadow2 = 0 ∧
    State.reset.shadow4 = 0 ∧ State.reset.shadow5 = 0 ∧ State.reset.shadow6 = 0) ∧
  (State.reset.txd.pushIdx = 0 ∧ State.reset.txd.popIdx = 0 ∧ State.reset.txl.pushIdx = 0 ∧
    State.reset.txl.popIdx = 0 ∧ State.reset.rxd.pushIdx = 0 ∧ State.reset.rxd.popIdx = 0 ∧
    State.reset.rxl.pushIdx = 0 ∧ State.reset.rxl.popIdx = 0) ∧
  (∀ k (h : k < 512), State.reset.txd.mem[k] = cfg.txdInit k ∧ State.reset.rxd.mem[k] = cfg.rxdInit k) ∧
  (∀ k (h : k < 16), State.reset.txl.mem[k] = cfg.txlInit k ∧ State.reset.rxl.mem[k] = cfg.rxlInit k) ∧
  sampleLines State.reset = ⟨false, false, false⟩ ∧
  State.reset.inbox = [] ∧ State.reset.events = [] ∧ State.reset.replies = []

/-- No read but RX_DATA and RX_LENGTH changes any state.
Every bus read other than the two RX pops leaves every register, every ring and the host's remaining requests as they were; the list of events gains one diagnostic exactly when the slot is undefined, and nothing else. The list of replies is left open here, and EveryInstructionCompletes says that it gains exactly one. The spec marks this rule as derived; that the undefined MAC slots emit the diagnostic is its decision D16 (log entry 11).
Basis: derived (spec/20_memory.md section 3, spec/42_mac_bank.md, spec/92_eei_decisions.md D16). -/
def Obligations.ReadsChangeNothingButRxPops : Prop :=
  ∀ (i : Instr) (s t : State), isRead i = true → i ≠ .rdFifoRxData → i ≠ .rdFifoRxLength → exec i s = .next t →
    t = { s with events := t.events, replies := t.replies } ∧
    t.events = s.events ++
      (if touchesUndefined i = true then
        ((bankOf i).toList.map fun bank => Event.diag .unknownRegister bank (slotOf i) .rd) else [])

/-- Writing the same value again to a storing, clearing or reset register changes no state.
After a write to Host slots 1, 2, 3 or 4 or FIFO slots 0, 1, 2 or 6, a second write of the same value completes and changes nothing but the list of replies; a second identical Host slot 0 write leaves the same registers too. The spec marks this rule as derived. What an INT_STATUS write clears is its resolution of conflict C1 and decision D2 (log entry 9), and the whole-word reset comparison its decision D21 (log entry 10).
Basis: derived (spec/20_memory.md section 3, spec/90_conflicts.md C1, spec/92_eei_decisions.md D2, spec/92_eei_decisions.md D21). -/
def Obligations.RepeatedWriteChangesNothing : Prop :=
  ∀ write ∈ [Instr.wrHostMdioCtrl, .wrHostMdioData, .wrHostIrqMask, .wrHostIrqFlags, .wrHostVlanMask,
      .wrFifoIntStatus, .wrFifoIntEnable, .wrFifoTxReset, .wrFifoRxReset],
    ∀ (v : Word) (s t : State), exec (write v) s = .next t →
      exec (write v) t = .next { t with replies := t.replies ++ [.nothing] }

/-- An access to one bank changes no state of another, and MAC and port accesses change none at all.
A Host access leaves the FIFO status, enable and shadow words and all four rings; a FIFO access leaves the five Host registers; a MAC access or a port operation leaves every register and ring. So the two driven lines are independent. That a FIFO access, a write to INT_STATUS among them, touches no Host register is the spec's resolution of conflict C1 and its decision D2 (log entry 9), and the independence of the lines its own inference.
Basis: derived (spec/41_host_bank.md, spec/42_mac_bank.md, spec/60_exceptions.md section 3, spec/43_fifo_bank.md section 2, spec/45_rx_port.md, spec/90_conflicts.md C1, spec/92_eei_decisions.md D2). -/
def Obligations.BanksAreIndependent : Prop :=
  ∀ (i : Instr) (s t : State), exec i s = .next t →
    (bankOf i = some .host →
      t = { s with
        mdioCtrl := t.mdioCtrl, mdioData := t.mdioData, hostMask := t.hostMask, hostFlags := t.hostFlags
        vlanMask := t.vlanMask, events := t.events, replies := t.replies } ∧ irqFifo t = irqFifo s) ∧
    (bankOf i = some .fifo →
      t.mdioCtrl = s.mdioCtrl ∧ t.mdioData = s.mdioData ∧ t.hostMask = s.hostMask ∧ t.hostFlags = s.hostFlags ∧
      t.vlanMask = s.vlanMask ∧ irqHost t = irqHost s) ∧
    (bankOf i = some .mac ∨ bankOf i = none →
      t = { s with events := t.events, replies := t.replies } ∧ sampleLines t = sampleLines s)

/-- One access sets at most one status bit of one bank, or only clears bits of one register.
After every instruction, at least one of the two status registers is as it was, and the other is as it was, or has exactly one named bit set besides (M_TC or M_TPOE for a length write, M_TPOE for a data write, M_RPURE for an RX read, host flag 0 for an MDIO control write), or has only lost bits in a write to itself. The spec marks this rule as derived. That an INT_STATUS write touches the FIFO status alone is its resolution of conflict C1 and decision D2 (log entry 9), and that only M_TC or nothing is set by an accepted length write rests on decision D5 for a run that stalls (log entry 8).
Basis: derived (spec/60_exceptions.md section 3, spec/90_conflicts.md C1, spec/92_eei_decisions.md D2, spec/92_eei_decisions.md D5). -/
def Obligations.OneCausePerAccess : Prop :=
  ∀ (i : Instr) (s t : State), exec i s = .next t →
    (t.fifoStatus = s.fifoStatus ∧ t.hostFlags = s.hostFlags) ∨
    (t.hostFlags = s.hostFlags ∧
      ((∃ v, i = .wrFifoTxLength v ∧
          ((s.txl.isFull = false ∧ t.fifoStatus = s.fifoStatus ||| mTc cfg) ∨
            (s.txl.isFull = true ∧ t.fifoStatus = s.fifoStatus ||| mTpoe cfg))) ∨
        (∃ v, i = .wrFifoTxData v ∧ t.fifoStatus = s.fifoStatus ||| mTpoe cfg) ∨
        ((i = .rdFifoRxData ∨ i = .rdFifoRxLength) ∧ t.fifoStatus = s.fifoStatus ||| mRpure cfg) ∨
        (∃ v, i = .wrFifoIntStatus v ∧ t.fifoStatus &&& s.fifoStatus = t.fifoStatus))) ∨
    (t.fifoStatus = s.fifoStatus ∧
      ((∃ v, i = .wrHostMdioCtrl v ∧ t.hostFlags = s.hostFlags ||| 1#2) ∨
        (∃ v, i = .wrHostIrqFlags v ∧ t.hostFlags &&& s.hostFlags = t.hostFlags)))

/-- Each register changes only through the accesses the spec lists as its writers.
Whenever an instruction changes a register, it is one of the accesses listed for it: mdioCtrl, hostMask, vlanMask and fifoEnable through their own slot writes; mdioData through MDIO_DATA or an MDIO read request; hostFlags through MDIO_CTRL or IRQ_FLAGS; fifoStatus through INT_STATUS, the two TX pushes and the two RX pops; a shadow word through its slot write under SHADOW_TRACKS_WRITES, the TX data mirror through none; the TX rings through TX_DATA, TX_LENGTH or a TX_RESET write of the whole word 0x000000A5, the length ring not through TX_DATA; an RX ring through its own pop or an RX_RESET write of that whole word. That fifoEnable and hostMask change through their own writes alone, and not through INT_STATUS, is the spec's resolution of conflict C1 and its decision D2 (log entry 9); that the whole word is compared is its decision D21 (log entry 10); and the list of what each operation writes is the spec's own inference from its slot rules. SHADOW_TRACKS_WRITES and VLAN_WRITE_STORES are its open parameters (log entry 3).
Basis: derived (spec/10_state.md section 4, spec/70_reset_and_hazards.md section 1, spec/90_conflicts.md C1, spec/92_eei_decisions.md D2, spec/92_eei_decisions.md D21). -/
def Obligations.RegisterWriters : Prop :=
  ∀ (i : Instr) (s t : State), exec i s = .next t →
    (t.mdioCtrl = s.mdioCtrl ∨ ∃ v, i = .wrHostMdioCtrl v) ∧
    (t.mdioData = s.mdioData ∨ ∃ v, i = .wrHostMdioData v ∨ (i = .wrHostMdioCtrl v ∧ v.getLsbD 10 = true)) ∧
    (t.hostMask = s.hostMask ∨ ∃ v, i = .wrHostIrqMask v) ∧
    (t.hostFlags = s.hostFlags ∨ ∃ v, i = .wrHostMdioCtrl v ∨ i = .wrHostIrqFlags v) ∧
    (t.vlanMask = s.vlanMask ∨ (∃ v, i = .wrHostVlanMask v) ∧ cfg.vlanWriteStores = true) ∧
    (t.fifoStatus = s.fifoStatus ∨ i = .rdFifoRxData ∨ i = .rdFifoRxLength ∨
      ∃ v, i = .wrFifoIntStatus v ∨ i = .wrFifoTxData v ∨ i = .wrFifoTxLength v) ∧
    (t.fifoEnable = s.fifoEnable ∨ ∃ v, i = .wrFifoIntEnable v) ∧
    (t.shadow2 = s.shadow2 ∨ (∃ v, i = .wrFifoTxReset v) ∧ cfg.shadowTracksWrites = true) ∧
    t.shadow4 = s.shadow4 ∧
    (t.shadow5 = s.shadow5 ∨ (∃ v, i = .wrFifoTxLength v) ∧ cfg.shadowTracksWrites = true) ∧
    (t.shadow6 = s.shadow6 ∨ (∃ v, i = .wrFifoRxReset v) ∧ cfg.shadowTracksWrites = true) ∧
    (t.txd = s.txd ∨ i = .wrFifoTxReset 0xA5#32 ∨ ∃ v, i = .wrFifoTxData v ∨ i = .wrFifoTxLength v) ∧
    (t.txl = s.txl ∨ i = .wrFifoTxReset 0xA5#32 ∨ ∃ v, i = .wrFifoTxLength v) ∧
    (t.rxd = s.rxd ∨ i = .rdFifoRxData ∨ i = .wrFifoRxReset 0xA5#32) ∧
    (t.rxl = s.rxl ∨ i = .rdFifoRxLength ∨ i = .wrFifoRxReset 0xA5#32)

/-- Each error condition has exactly the effect the taxonomy gives it.
An access that meets TxOverflow sets M_TPOE and changes no ring, sends nothing and discards its value (but for the shadow word of a length write where SHADOW_TRACKS_WRITES says so). One that meets RxUnderflow sets M_RPURE, returns the stale word at the pop position and changes no index. One that meets InvalidReset changes nothing but its shadow word (where SHADOW_TRACKS_WRITES says so). One that meets UnknownRegister emits one diagnostic with its bank, slot and direction, returns 0 if it is a read, and changes nothing. After an overflow or an underflow the FIFO line has the level of the new status under the enable mask. The codes, the undefined MAC slots and the whole-word comparison are the spec's decisions D20, D16 and D21 (log entries 10 and 11), the shadow its open parameter of D8.
Basis: derived (spec/60_exceptions.md section 1, spec/92_eei_decisions.md D8, spec/92_eei_decisions.md D16, spec/92_eei_decisions.md D20, spec/92_eei_decisions.md D21). -/
def Obligations.ErrorConditions : Prop :=
  ∀ (i : Instr) (s : State),
    (errorOf i s = some .txOverflow → ∃ t, exec i s = .next t ∧
      t = { s with
        fifoStatus := s.fifoStatus ||| mTpoe cfg
        shadow5 := if cfg.shadowTracksWrites ∧ slotOf i = 5 then (encode i).value else s.shadow5
        replies := s.replies ++ [.nothing] } ∧
      (irqFifo t = true ↔ (s.fifoStatus ||| mTpoe cfg) &&& s.fifoEnable ≠ 0)) ∧
    (errorOf i s = some .rxUnderflow → ∃ t, exec i s = .next t ∧
      t = { s with
        fifoStatus := s.fifoStatus ||| mRpure cfg
        replies := s.replies ++
          [.value (if slotOf i = 8 then s.rxd.mem[s.rxd.popIdx.val] else s.rxl.mem[s.rxl.popIdx.val])] } ∧
      (irqFifo t = true ↔ (s.fifoStatus ||| mRpure cfg) &&& s.fifoEnable ≠ 0)) ∧
    (errorOf i s = some .invalidReset → exec i s = .next
      { s with
        shadow2 := if cfg.shadowTracksWrites ∧ slotOf i = 2 then (encode i).value else s.shadow2
        shadow6 := if cfg.shadowTracksWrites ∧ slotOf i = 6 then (encode i).value else s.shadow6
        replies := s.replies ++ [.nothing] }) ∧
    (errorOf i s = some .unknownRegister → ∃ bank, bankOf i = some bank ∧ exec i s = .next
      { s with
        events := s.events ++ [.diag .unknownRegister bank (slotOf i) (dirOf i)]
        replies := s.replies ++ [if isRead i then .value 0 else .nothing] })

/-- An access that meets no error condition sets no error bit and emits no diagnostic.
If an access meets none of the four error conditions, then afterwards neither M_TPOE nor M_RPURE is set unless it was before, and every event it added is a frame. Which accesses meet a condition is named by the codes of decision D20 and rests on D16 for the undefined MAC slots (log entry 11) and on D21 for the reset writes (log entry 10).
Basis: derived (spec/60_exceptions.md section 1, spec/60_exceptions.md section 3, spec/92_eei_decisions.md D16, spec/92_eei_decisions.md D20, spec/92_eei_decisions.md D21). -/
def Obligations.CleanAccessReportsNothing : Prop :=
  ∀ (i : Instr) (s t : State), errorOf i s = none → exec i s = .next t →
    (t.fifoStatus.getLsbD cfg.bitTpoe.val = true → s.fifoStatus.getLsbD cfg.bitTpoe.val = true) ∧
    (t.fifoStatus.getLsbD cfg.bitRpure.val = true → s.fifoStatus.getLsbD cfg.bitRpure.val = true) ∧
    ∃ frames : List (List Byte), t.events = s.events ++ frames.map Event.send

/-- Each driven line is asserted exactly when some status bit is set and enabled; the phy line never is.
In every state: the host line is asserted exactly when one of the two flags is set with its mask bit; the FIFO line exactly when one of the 32 status bits is set with its enable bit; the phy line is low; and these are the levels the host samples. Each is a function of the state, so it is the level after every access.
Basis: stated (R132, R133, R134). -/
def Obligations.InterruptLineLevels : Prop :=
  ∀ s : State,
    (irqHost s = true ↔ ∃ k, k < 2 ∧ s.hostFlags.getLsbD k = true ∧ s.hostMask.getLsbD k = true) ∧
    (irqFifo s = true ↔ ∃ k, k < 32 ∧ s.fifoStatus.getLsbD k = true ∧ s.fifoEnable.getLsbD k = true) ∧
    irqPhy s = false ∧ sampleLines s = ⟨irqHost s, irqFifo s, false⟩

/-- Writing ones to all of a bank's status bits, or zero to its enable mask, leaves that bank's line low.
In every state of the device invariant: writing all ones to FIFO.INT_STATUS, or zero to FIFO.INT_ENABLE, completes with the FIFO line low; writing 3 to HOST.IRQ_FLAGS, or zero to HOST.IRQ_MASK, completes with the host line low; and the two status writes leave no status bit set. These are four fixed values of the write; the level after any other value is stated with the four writes themselves. That the INT_STATUS write clears the status register, inside the constant field, is the spec's resolution of conflict C1 and its decisions D2 and D3 (log entry 9). The spec marks this rule as derived.
Basis: derived (spec/60_exceptions.md section 4, spec/90_conflicts.md C1, spec/92_eei_decisions.md D2, spec/92_eei_decisions.md D3). -/
def Obligations.ClearOrDisableDeassertsLine : Prop :=
  ∀ s : State, DeviceInv s →
    (∃ t, exec (.wrFifoIntStatus 0xFFFFFFFF#32) s = .next t ∧ irqFifo t = false ∧ t.fifoStatus = 0) ∧
    (∃ t, exec (.wrFifoIntEnable 0) s = .next t ∧ irqFifo t = false ∧ t.fifoStatus = s.fifoStatus) ∧
    (∃ t, exec (.wrHostIrqFlags 3) s = .next t ∧ irqHost t = false ∧ t.hostFlags = 0) ∧
    (∃ t, exec (.wrHostIrqMask 0) s = .next t ∧ irqHost t = false ∧ t.hostFlags = s.hostFlags)

/-- A head record longer than 2044 bytes is never sent and blocks everything behind it until TXRESET.
If the oldest queued length record is above 2044, then however many steps the machine takes, as long as no request it takes is a TXRESET, that record stays the oldest queued record and no frame is sent. That a record without its words stalls is the spec's decision D4. That the word count of lengths from 0xFFFFFFFD up does not wrap is its decision D6 (both in log entry 8), and that a TX_RESET write of any word but 0x000000A5 is no TXRESET its decision D21 (log entry 10). The spec marks the rule as its own inference.
Basis: derived (spec/44_tx_pipeline.md section 5, spec/92_eei_decisions.md D4, spec/92_eei_decisions.md D6, spec/92_eei_decisions.md D21). -/
def Obligations.OversizedRecordBlocks : Prop :=
  ∀ (n : Nat) (s t : State) (len : Word) (rest : List Word),
    s.txl.contents = len :: rest → 2044 < len.toNat →
    (∀ r ∈ s.inbox.take n, decodeRequest cfg.base r ≠ .ok (.wrFifoTxReset 0xA5#32)) →
    Sys2Proof.core.run n s = .next t →
    sentFrames t.events = sentFrames s.events ∧ ∃ more, t.txl.contents = len :: rest ++ more

/-- With the TX length ring full, only TXRESET changes a TX ring; pushes overflow and the vacancy reads 0.
In every state whose TX length ring is full: every instruction other than a TX reset write of 0xA5 leaves both TX rings and sends nothing; a TX data write and a TX length write each set M_TPOE; the vacancy reads 0; and a TX reset write of 0xA5 empties both rings. That such a ring can fill at all is the spec's decision D4 (log entry 8), and that a TX_RESET write of any word but 0x000000A5 leaves the rings its decision D21 (log entry 10).
Basis: derived (spec/70_reset_and_hazards.md section 3, spec/92_eei_decisions.md D4, spec/92_eei_decisions.md D21). -/
def Obligations.FullLengthRingBlocks : Prop :=
  ∀ s : State, s.txl.isFull = true →
    (∀ (i : Instr) (t : State), i ≠ .wrFifoTxReset 0xA5#32 → exec i s = .next t →
      t.txd = s.txd ∧ t.txl = s.txl ∧ sentFrames t.events = sentFrames s.events) ∧
    (∀ v : Word, ∃ t u, exec (.wrFifoTxData v) s = .next t ∧ t.fifoStatus.getLsbD cfg.bitTpoe.val = true ∧
      exec (.wrFifoTxLength v) s = .next u ∧ u.fifoStatus.getLsbD cfg.bitTpoe.val = true) ∧
    exec .rdFifoTxVacancy s = .next { s with replies := s.replies ++ [.value 0] } ∧
    (∃ t, exec (.wrFifoTxReset 0xA5#32) s = .next t ∧ t.txd.isEmpty = true ∧ t.txl.isEmpty = true)

/-- As many data words as the vacancy says can be pushed without overflow, and the next one overflows.
In every state, writing TX_DATA with a list of words no longer than the vacancy, one after another, pushes them all in order, leaves the status register and every record as they were and the vacancy smaller by their number; and a data write at vacancy 0 only sets M_TPOE.
Basis: derived (spec/43_fifo_bank.md section 1, spec/70_reset_and_hazards.md section 3). -/
def Obligations.VacancyCountsAcceptedPushes : Prop :=
  (∀ (words : List Word) (s : State), words.length ≤ txVacancy s →
    ∃ t, execAll (words.map Instr.wrFifoTxData) s = .next t ∧
      t.txd.contents = s.txd.contents ++ words ∧ t.txl = s.txl ∧ t.fifoStatus = s.fifoStatus ∧
      txVacancy t + words.length = txVacancy s) ∧
  (∀ (v : Word) (s : State), txVacancy s = 0 → exec (.wrFifoTxData v) s = .next
    { s with fifoStatus := s.fifoStatus ||| mTpoe cfg, replies := s.replies ++ [.nothing] })
end

