-- ==== Sys2Proof/Laws/Decode.lean ====
section
/-! SUPPORT. The descriptor's fields as arithmetic on its number, and for every row of the opcode table the
word its rule writes out, decoded (R47, R51). -/

namespace Sys2Proof.Laws

@[simp] theorem bareOperation_descriptor (d : BitVec 16) : (bareOperation d).descriptor = d := rfl

@[simp] theorem writeOperation_descriptor (d : BitVec 16) (v : Word) : (writeOperation d v).descriptor = d := rfl

theorem kindField_toNat (A : BitVec 16) : (kindField A).toNat = A.toNat / 0x4000 := by
  have := A.isLt
  simp [kindField, Nat.shiftRight_eq_div_pow]
  omega

theorem bankField_toNat (A : BitVec 16) : (bankField A).toNat = A.toNat % 0x4000 / 0x1000 := by
  simp [bankField, Nat.shiftRight_eq_div_pow]
  omega

theorem winField_toNat (A : BitVec 16) : (winField A).toNat = A.toNat % 0x1000 / 0x40 := by
  simp [winField, Nat.shiftRight_eq_div_pow]
  omega

theorem slotField_toNat (A : BitVec 16) : (slotField A).toNat = A.toNat % 0x40 / 4 := by
  simp [slotField, Nat.shiftRight_eq_div_pow]
  omega

theorem alignField_toNat (A : BitVec 16) : (alignField A).toNat = A.toNat % 4 := by
  simp [alignField]

theorem zeroField_toNat (A : BitVec 16) : (zeroField A).toNat = A.toNat % 0x4000 / 0x10 := by
  simp [zeroField, Nat.shiftRight_eq_div_pow]
  omega

theorem portField_toNat (A : BitVec 16) : (portField A).toNat = A.toNat % 0x10 := by
  simp [portField]

/-- A write whose descriptor passes every check of R47 decodes to its row of the table. -/
theorem decode_write_of_fields (d : BitVec 16) (v : Word) (bank : Bank) (slot : BitVec 4)
    (h : (kindField d, selectedBank (bankField d), winField d, alignField d, slotField d) =
      (1, some bank, 0, 0, slot)) :
    decode (writeOperation d v) = .ok (tableRow .wr bank slot v) := by
  simp only [Prod.mk.injEq] at h
  obtain ⟨h1, h2, h3, h4, h5⟩ := h
  simp [decode, decodeBus, writeOperation, h1, h2, h3, h4, h5]

/-- The row a bus read selects is presented as a bare operation at its own bank and slot. -/
theorem encode_tableRow_rd (bank : Bank) (slot : BitVec 4) (v : Word) :
    encode (tableRow .rd bank slot v) =
      bareOperation (Machine.registerDescriptor .rd bank slot.toNat) := by
  have h : ∀ slot : BitVec 4, encode (tableRow .rd bank slot 0) =
      bareOperation (Machine.registerDescriptor .rd bank slot.toNat) := by
    cases bank <;> decide
  cases bank <;> exact h slot

/-- The row a bus write selects is presented at its own bank and slot, with its value. -/
theorem encode_tableRow_wr (bank : Bank) (slot : BitVec 4) (v : Word) :
    encode (tableRow .wr bank slot v) =
      writeOperation (Machine.registerDescriptor .wr bank slot.toNat) v := by
  obtain ⟨⟨n, hn⟩⟩ := slot
  cases bank <;> (interval_cases n <;> rfl)

@[simp] theorem decode_rdHostMdioCtrl : decode (bareOperation 0x0000#16) = .ok .rdHostMdioCtrl := rfl

@[simp] theorem decode_rdHostMdioData : decode (bareOperation 0x0004#16) = .ok .rdHostMdioData := rfl

@[simp] theorem decode_rdHostIrqMask : decode (bareOperation 0x0008#16) = .ok .rdHostIrqMask := rfl

@[simp] theorem decode_rdHostIrqFlags : decode (bareOperation 0x000C#16) = .ok .rdHostIrqFlags := rfl

@[simp] theorem decode_rdHostVlanMask : decode (bareOperation 0x0010#16) = .ok .rdHostVlanMask := rfl

@[simp] theorem decode_rdHostUnk5 : decode (bareOperation 0x0014#16) = .ok .rdHostUnk5 := rfl

@[simp] theorem decode_rdHostUnk6 : decode (bareOperation 0x0018#16) = .ok .rdHostUnk6 := rfl

@[simp] theorem decode_rdHostUnk7 : decode (bareOperation 0x001C#16) = .ok .rdHostUnk7 := rfl

@[simp] theorem decode_rdHostUnk8 : decode (bareOperation 0x0020#16) = .ok .rdHostUnk8 := rfl

@[simp] theorem decode_rdHostUnk9 : decode (bareOperation 0x0024#16) = .ok .rdHostUnk9 := rfl

@[simp] theorem decode_rdHostUnk10 : decode (bareOperation 0x0028#16) = .ok .rdHostUnk10 := rfl

@[simp] theorem decode_rdHostUnk11 : decode (bareOperation 0x002C#16) = .ok .rdHostUnk11 := rfl

@[simp] theorem decode_rdHostUnk12 : decode (bareOperation 0x0030#16) = .ok .rdHostUnk12 := rfl

@[simp] theorem decode_rdHostUnk13 : decode (bareOperation 0x0034#16) = .ok .rdHostUnk13 := rfl

@[simp] theorem decode_rdHostUnk14 : decode (bareOperation 0x0038#16) = .ok .rdHostUnk14 := rfl

@[simp] theorem decode_rdHostRevision : decode (bareOperation 0x003C#16) = .ok .rdHostRevision := rfl

@[simp] theorem decode_rdMacUnk0 : decode (bareOperation 0x1000#16) = .ok .rdMacUnk0 := rfl

@[simp] theorem decode_rdMacRxConfig : decode (bareOperation 0x1004#16) = .ok .rdMacRxConfig := rfl

@[simp] theorem decode_rdMacTxConfig : decode (bareOperation 0x1008#16) = .ok .rdMacTxConfig := rfl

@[simp] theorem decode_rdMacUnk3 : decode (bareOperation 0x100C#16) = .ok .rdMacUnk3 := rfl

@[simp] theorem decode_rdMacSpeedConfig : decode (bareOperation 0x1010#16) = .ok .rdMacSpeedConfig := rfl

@[simp] theorem decode_rdMacMdioConfig : decode (bareOperation 0x1014#16) = .ok .rdMacMdioConfig := rfl

@[simp] theorem decode_rdMacUnk6 : decode (bareOperation 0x1018#16) = .ok .rdMacUnk6 := rfl

@[simp] theorem decode_rdMacUnk7 : decode (bareOperation 0x101C#16) = .ok .rdMacUnk7 := rfl

@[simp] theorem decode_rdMacUnk8 : decode (bareOperation 0x1020#16) = .ok .rdMacUnk8 := rfl

@[simp] theorem decode_rdMacUnk9 : decode (bareOperation 0x1024#16) = .ok .rdMacUnk9 := rfl

@[simp] theorem decode_rdMacUnk10 : decode (bareOperation 0x1028#16) = .ok .rdMacUnk10 := rfl

@[simp] theorem decode_rdMacUnk11 : decode (bareOperation 0x102C#16) = .ok .rdMacUnk11 := rfl

@[simp] theorem decode_rdMacUnk12 : decode (bareOperation 0x1030#16) = .ok .rdMacUnk12 := rfl

@[simp] theorem decode_rdMacUnk13 : decode (bareOperation 0x1034#16) = .ok .rdMacUnk13 := rfl

@[simp] theorem decode_rdMacUnk14 : decode (bareOperation 0x1038#16) = .ok .rdMacUnk14 := rfl

@[simp] theorem decode_rdMacUnk15 : decode (bareOperation 0x103C#16) = .ok .rdMacUnk15 := rfl

@[simp] theorem decode_rdFifoIntStatus : decode (bareOperation 0x2000#16) = .ok .rdFifoIntStatus := rfl

@[simp] theorem decode_rdFifoIntEnable : decode (bareOperation 0x2004#16) = .ok .rdFifoIntEnable := rfl

@[simp] theorem decode_rdFifoTxReset : decode (bareOperation 0x2008#16) = .ok .rdFifoTxReset := rfl

@[simp] theorem decode_rdFifoTxVacancy : decode (bareOperation 0x200C#16) = .ok .rdFifoTxVacancy := rfl

@[simp] theorem decode_rdFifoTxData : decode (bareOperation 0x2010#16) = .ok .rdFifoTxData := rfl

@[simp] theorem decode_rdFifoTxLength : decode (bareOperation 0x2014#16) = .ok .rdFifoTxLength := rfl

@[simp] theorem decode_rdFifoRxReset : decode (bareOperation 0x2018#16) = .ok .rdFifoRxReset := rfl

@[simp] theorem decode_rdFifoRxOccupancy : decode (bareOperation 0x201C#16) = .ok .rdFifoRxOccupancy := rfl

@[simp] theorem decode_rdFifoRxData : decode (bareOperation 0x2020#16) = .ok .rdFifoRxData := rfl

@[simp] theorem decode_rdFifoRxLength : decode (bareOperation 0x2024#16) = .ok .rdFifoRxLength := rfl

@[simp] theorem decode_rdFifoUnk10 : decode (bareOperation 0x2028#16) = .ok .rdFifoUnk10 := rfl

@[simp] theorem decode_rdFifoUnk11 : decode (bareOperation 0x202C#16) = .ok .rdFifoUnk11 := rfl

@[simp] theorem decode_rdFifoUnk12 : decode (bareOperation 0x2030#16) = .ok .rdFifoUnk12 := rfl

@[simp] theorem decode_rdFifoUnk13 : decode (bareOperation 0x2034#16) = .ok .rdFifoUnk13 := rfl

@[simp] theorem decode_rdFifoUnk14 : decode (bareOperation 0x2038#16) = .ok .rdFifoUnk14 := rfl

@[simp] theorem decode_rdFifoUnk15 : decode (bareOperation 0x203C#16) = .ok .rdFifoUnk15 := rfl

@[simp] theorem decode_wrHostMdioCtrl (v : Word) : decode (writeOperation 0x4000#16 v) = .ok (.wrHostMdioCtrl v) :=
  decode_write_of_fields _ v .host 0 rfl

@[simp] theorem decode_wrHostMdioData (v : Word) : decode (writeOperation 0x4004#16 v) = .ok (.wrHostMdioData v) :=
  decode_write_of_fields _ v .host 1 rfl

@[simp] theorem decode_wrHostIrqMask (v : Word) : decode (writeOperation 0x4008#16 v) = .ok (.wrHostIrqMask v) :=
  decode_write_of_fields _ v .host 2 rfl

@[simp] theorem decode_wrHostIrqFlags (v : Word) : decode (writeOperation 0x400C#16 v) = .ok (.wrHostIrqFlags v) :=
  decode_write_of_fields _ v .host 3 rfl

@[simp] theorem decode_wrHostVlanMask (v : Word) : decode (writeOperation 0x4010#16 v) = .ok (.wrHostVlanMask v) :=
  decode_write_of_fields _ v .host 4 rfl

@[simp] theorem decode_wrHostUnk5 (v : Word) : decode (writeOperation 0x4014#16 v) = .ok (.wrHostUnk5 v) :=
  decode_write_of_fields _ v .host 5 rfl

@[simp] theorem decode_wrHostUnk6 (v : Word) : decode (writeOperation 0x4018#16 v) = .ok (.wrHostUnk6 v) :=
  decode_write_of_fields _ v .host 6 rfl

@[simp] theorem decode_wrHostUnk7 (v : Word) : decode (writeOperation 0x401C#16 v) = .ok (.wrHostUnk7 v) :=
  decode_write_of_fields _ v .host 7 rfl

@[simp] theorem decode_wrHostUnk8 (v : Word) : decode (writeOperation 0x4020#16 v) = .ok (.wrHostUnk8 v) :=
  decode_write_of_fields _ v .host 8 rfl

@[simp] theorem decode_wrHostUnk9 (v : Word) : decode (writeOperation 0x4024#16 v) = .ok (.wrHostUnk9 v) :=
  decode_write_of_fields _ v .host 9 rfl

@[simp] theorem decode_wrHostUnk10 (v : Word) : decode (writeOperation 0x4028#16 v) = .ok (.wrHostUnk10 v) :=
  decode_write_of_fields _ v .host 10 rfl

@[simp] theorem decode_wrHostUnk11 (v : Word) : decode (writeOperation 0x402C#16 v) = .ok (.wrHostUnk11 v) :=
  decode_write_of_fields _ v .host 11 rfl

@[simp] theorem decode_wrHostUnk12 (v : Word) : decode (writeOperation 0x4030#16 v) = .ok (.wrHostUnk12 v) :=
  decode_write_of_fields _ v .host 12 rfl

@[simp] theorem decode_wrHostUnk13 (v : Word) : decode (writeOperation 0x4034#16 v) = .ok (.wrHostUnk13 v) :=
  decode_write_of_fields _ v .host 13 rfl

@[simp] theorem decode_wrHostUnk14 (v : Word) : decode (writeOperation 0x4038#16 v) = .ok (.wrHostUnk14 v) :=
  decode_write_of_fields _ v .host 14 rfl

@[simp] theorem decode_wrHostRevision (v : Word) : decode (writeOperation 0x403C#16 v) = .ok (.wrHostRevision v) :=
  decode_write_of_fields _ v .host 15 rfl

@[simp] theorem decode_wrMacUnk0 (v : Word) : decode (writeOperation 0x5000#16 v) = .ok (.wrMacUnk0 v) :=
  decode_write_of_fields _ v .mac 0 rfl

@[simp] theorem decode_wrMacRxConfig (v : Word) : decode (writeOperation 0x5004#16 v) = .ok (.wrMacRxConfig v) :=
  decode_write_of_fields _ v .mac 1 rfl

@[simp] theorem decode_wrMacTxConfig (v : Word) : decode (writeOperation 0x5008#16 v) = .ok (.wrMacTxConfig v) :=
  decode_write_of_fields _ v .mac 2 rfl

@[simp] theorem decode_wrMacUnk3 (v : Word) : decode (writeOperation 0x500C#16 v) = .ok (.wrMacUnk3 v) :=
  decode_write_of_fields _ v .mac 3 rfl

@[simp] theorem decode_wrMacSpeedConfig (v : Word) : decode (writeOperation 0x5010#16 v) = .ok (.wrMacSpeedConfig v) :=
  decode_write_of_fields _ v .mac 4 rfl

@[simp] theorem decode_wrMacMdioConfig (v : Word) : decode (writeOperation 0x5014#16 v) = .ok (.wrMacMdioConfig v) :=
  decode_write_of_fields _ v .mac 5 rfl

@[simp] theorem decode_wrMacUnk6 (v : Word) : decode (writeOperation 0x5018#16 v) = .ok (.wrMacUnk6 v) :=
  decode_write_of_fields _ v .mac 6 rfl

@[simp] theorem decode_wrMacUnk7 (v : Word) : decode (writeOperation 0x501C#16 v) = .ok (.wrMacUnk7 v) :=
  decode_write_of_fields _ v .mac 7 rfl

@[simp] theorem decode_wrMacUnk8 (v : Word) : decode (writeOperation 0x5020#16 v) = .ok (.wrMacUnk8 v) :=
  decode_write_of_fields _ v .mac 8 rfl

@[simp] theorem decode_wrMacUnk9 (v : Word) : decode (writeOperation 0x5024#16 v) = .ok (.wrMacUnk9 v) :=
  decode_write_of_fields _ v .mac 9 rfl

@[simp] theorem decode_wrMacUnk10 (v : Word) : decode (writeOperation 0x5028#16 v) = .ok (.wrMacUnk10 v) :=
  decode_write_of_fields _ v .mac 10 rfl

@[simp] theorem decode_wrMacUnk11 (v : Word) : decode (writeOperation 0x502C#16 v) = .ok (.wrMacUnk11 v) :=
  decode_write_of_fields _ v .mac 11 rfl

@[simp] theorem decode_wrMacUnk12 (v : Word) : decode (writeOperation 0x5030#16 v) = .ok (.wrMacUnk12 v) :=
  decode_write_of_fields _ v .mac 12 rfl

@[simp] theorem decode_wrMacUnk13 (v : Word) : decode (writeOperation 0x5034#16 v) = .ok (.wrMacUnk13 v) :=
  decode_write_of_fields _ v .mac 13 rfl

@[simp] theorem decode_wrMacUnk14 (v : Word) : decode (writeOperation 0x5038#16 v) = .ok (.wrMacUnk14 v) :=
  decode_write_of_fields _ v .mac 14 rfl

@[simp] theorem decode_wrMacUnk15 (v : Word) : decode (writeOperation 0x503C#16 v) = .ok (.wrMacUnk15 v) :=
  decode_write_of_fields _ v .mac 15 rfl

@[simp] theorem decode_wrFifoIntStatus (v : Word) : decode (writeOperation 0x6000#16 v) = .ok (.wrFifoIntStatus v) :=
  decode_write_of_fields _ v .fifo 0 rfl

@[simp] theorem decode_wrFifoIntEnable (v : Word) : decode (writeOperation 0x6004#16 v) = .ok (.wrFifoIntEnable v) :=
  decode_write_of_fields _ v .fifo 1 rfl

@[simp] theorem decode_wrFifoTxReset (v : Word) : decode (writeOperation 0x6008#16 v) = .ok (.wrFifoTxReset v) :=
  decode_write_of_fields _ v .fifo 2 rfl

@[simp] theorem decode_wrFifoTxVacancy (v : Word) : decode (writeOperation 0x600C#16 v) = .ok (.wrFifoTxVacancy v) :=
  decode_write_of_fields _ v .fifo 3 rfl

@[simp] theorem decode_wrFifoTxData (v : Word) : decode (writeOperation 0x6010#16 v) = .ok (.wrFifoTxData v) :=
  decode_write_of_fields _ v .fifo 4 rfl

@[simp] theorem decode_wrFifoTxLength (v : Word) : decode (writeOperation 0x6014#16 v) = .ok (.wrFifoTxLength v) :=
  decode_write_of_fields _ v .fifo 5 rfl

@[simp] theorem decode_wrFifoRxReset (v : Word) : decode (writeOperation 0x6018#16 v) = .ok (.wrFifoRxReset v) :=
  decode_write_of_fields _ v .fifo 6 rfl

@[simp] theorem decode_wrFifoRxOccupancy (v : Word) : decode (writeOperation 0x601C#16 v) = .ok (.wrFifoRxOccupancy v) :=
  decode_write_of_fields _ v .fifo 7 rfl

@[simp] theorem decode_wrFifoRxData (v : Word) : decode (writeOperation 0x6020#16 v) = .ok (.wrFifoRxData v) :=
  decode_write_of_fields _ v .fifo 8 rfl

@[simp] theorem decode_wrFifoRxLength (v : Word) : decode (writeOperation 0x6024#16 v) = .ok (.wrFifoRxLength v) :=
  decode_write_of_fields _ v .fifo 9 rfl

@[simp] theorem decode_wrFifoUnk10 (v : Word) : decode (writeOperation 0x6028#16 v) = .ok (.wrFifoUnk10 v) :=
  decode_write_of_fields _ v .fifo 10 rfl

@[simp] theorem decode_wrFifoUnk11 (v : Word) : decode (writeOperation 0x602C#16 v) = .ok (.wrFifoUnk11 v) :=
  decode_write_of_fields _ v .fifo 11 rfl

@[simp] theorem decode_wrFifoUnk12 (v : Word) : decode (writeOperation 0x6030#16 v) = .ok (.wrFifoUnk12 v) :=
  decode_write_of_fields _ v .fifo 12 rfl

@[simp] theorem decode_wrFifoUnk13 (v : Word) : decode (writeOperation 0x6034#16 v) = .ok (.wrFifoUnk13 v) :=
  decode_write_of_fields _ v .fifo 13 rfl

@[simp] theorem decode_wrFifoUnk14 (v : Word) : decode (writeOperation 0x6038#16 v) = .ok (.wrFifoUnk14 v) :=
  decode_write_of_fields _ v .fifo 14 rfl

@[simp] theorem decode_wrFifoUnk15 (v : Word) : decode (writeOperation 0x603C#16 v) = .ok (.wrFifoUnk15 v) :=
  decode_write_of_fields _ v .fifo 15 rfl

@[simp] theorem decode_portRxCanAccept : decode (bareOperation 0x8000#16) = .ok .portRxCanAccept := rfl

@[simp] theorem decode_portRxDeliver (frame : List Byte) :
    decode ⟨0x8001#16, 4, 0#32, frame⟩ = .ok (.portRxDeliver frame) := by
  simp [decode, decodePort, kindField, zeroField, portField]

end Sys2Proof.Laws
end

