-- ==== Sys2Proof/Laws/Access.lean ====
section
/-! SUPPORT. For every instruction, which bank and slot it accesses, whether it reads, whether the slot is
defined, and which error condition of R127 it meets. -/

namespace Sys2Proof.Machine

open Sys2Proof.Laws

/-- What a descriptor says of a bus access. -/
theorem access_of_descriptor {i : Instr} {d : BitVec 16} {bank : Bank} {slot : Fin 16} {read undefined : Bool}
    (hd : (encode i).descriptor = d)
    (h : (if kindField d = 2 then none else selectedBank (bankField d), (slotField d).toFin, kindField d == 0,
        undefinedSlot bank slot) = (some bank, slot, read, undefined)) :
    bankOf i = some bank ∧ slotOf i = slot ∧ isRead i = read ∧ touchesUndefined i = undefined := by
  subst hd
  simp only [Prod.mk.injEq] at h
  obtain ⟨h1, h2, h3, h4⟩ := h
  have hb : bankOf i = some bank := h1
  exact ⟨hb, h2, h3, by simp [touchesUndefined, hb, slotOf, h2, h4]⟩

/-- What a descriptor says of a port operation. -/
theorem port_of_descriptor {i : Instr} {d : BitVec 16} (hd : (encode i).descriptor = d) (h : kindField d = 2) :
    bankOf i = none ∧ isRead i = false ∧ touchesUndefined i = false := by
  subst hd
  have hb : bankOf i = none := by simp [bankOf, h]
  exact ⟨hb, by simp [isRead, h], by simp [touchesUndefined, hb]⟩

/-- An access that is none of the six with a condition of its own is in error exactly at an undefined slot. -/
theorem errorOf_of_undefined {i : Instr} {s : State} {undefined : Bool}
    (h : errorOf i s = if touchesUndefined i then some .unknownRegister else none)
    (hu : touchesUndefined i = undefined) :
    errorOf i s = if undefined then some .unknownRegister else none := by rw [h, hu]

@[simp] theorem access_rdHostMdioCtrl : bankOf .rdHostMdioCtrl = some .host ∧ slotOf .rdHostMdioCtrl = 0 ∧ isRead .rdHostMdioCtrl = true ∧
    touchesUndefined .rdHostMdioCtrl = false :=
  access_of_descriptor (d := 0x0000#16) rfl (by decide)

@[simp] theorem errorOf_rdHostMdioCtrl (s : State) : errorOf .rdHostMdioCtrl s = none :=
  errorOf_of_undefined rfl (access_rdHostMdioCtrl).2.2.2

@[simp] theorem access_rdHostMdioData : bankOf .rdHostMdioData = some .host ∧ slotOf .rdHostMdioData = 1 ∧ isRead .rdHostMdioData = true ∧
    touchesUndefined .rdHostMdioData = false :=
  access_of_descriptor (d := 0x0004#16) rfl (by decide)

@[simp] theorem errorOf_rdHostMdioData (s : State) : errorOf .rdHostMdioData s = none :=
  errorOf_of_undefined rfl (access_rdHostMdioData).2.2.2

@[simp] theorem access_rdHostIrqMask : bankOf .rdHostIrqMask = some .host ∧ slotOf .rdHostIrqMask = 2 ∧ isRead .rdHostIrqMask = true ∧
    touchesUndefined .rdHostIrqMask = false :=
  access_of_descriptor (d := 0x0008#16) rfl (by decide)

@[simp] theorem errorOf_rdHostIrqMask (s : State) : errorOf .rdHostIrqMask s = none :=
  errorOf_of_undefined rfl (access_rdHostIrqMask).2.2.2

@[simp] theorem access_rdHostIrqFlags : bankOf .rdHostIrqFlags = some .host ∧ slotOf .rdHostIrqFlags = 3 ∧ isRead .rdHostIrqFlags = true ∧
    touchesUndefined .rdHostIrqFlags = false :=
  access_of_descriptor (d := 0x000C#16) rfl (by decide)

@[simp] theorem errorOf_rdHostIrqFlags (s : State) : errorOf .rdHostIrqFlags s = none :=
  errorOf_of_undefined rfl (access_rdHostIrqFlags).2.2.2

@[simp] theorem access_rdHostVlanMask : bankOf .rdHostVlanMask = some .host ∧ slotOf .rdHostVlanMask = 4 ∧ isRead .rdHostVlanMask = true ∧
    touchesUndefined .rdHostVlanMask = false :=
  access_of_descriptor (d := 0x0010#16) rfl (by decide)

@[simp] theorem errorOf_rdHostVlanMask (s : State) : errorOf .rdHostVlanMask s = none :=
  errorOf_of_undefined rfl (access_rdHostVlanMask).2.2.2

@[simp] theorem access_rdHostUnk5 : bankOf .rdHostUnk5 = some .host ∧ slotOf .rdHostUnk5 = 5 ∧ isRead .rdHostUnk5 = true ∧
    touchesUndefined .rdHostUnk5 = true :=
  access_of_descriptor (d := 0x0014#16) rfl (by decide)

@[simp] theorem errorOf_rdHostUnk5 (s : State) : errorOf .rdHostUnk5 s = some .unknownRegister :=
  errorOf_of_undefined rfl (access_rdHostUnk5).2.2.2

@[simp] theorem access_rdHostUnk6 : bankOf .rdHostUnk6 = some .host ∧ slotOf .rdHostUnk6 = 6 ∧ isRead .rdHostUnk6 = true ∧
    touchesUndefined .rdHostUnk6 = true :=
  access_of_descriptor (d := 0x0018#16) rfl (by decide)

@[simp] theorem errorOf_rdHostUnk6 (s : State) : errorOf .rdHostUnk6 s = some .unknownRegister :=
  errorOf_of_undefined rfl (access_rdHostUnk6).2.2.2

@[simp] theorem access_rdHostUnk7 : bankOf .rdHostUnk7 = some .host ∧ slotOf .rdHostUnk7 = 7 ∧ isRead .rdHostUnk7 = true ∧
    touchesUndefined .rdHostUnk7 = true :=
  access_of_descriptor (d := 0x001C#16) rfl (by decide)

@[simp] theorem errorOf_rdHostUnk7 (s : State) : errorOf .rdHostUnk7 s = some .unknownRegister :=
  errorOf_of_undefined rfl (access_rdHostUnk7).2.2.2

@[simp] theorem access_rdHostUnk8 : bankOf .rdHostUnk8 = some .host ∧ slotOf .rdHostUnk8 = 8 ∧ isRead .rdHostUnk8 = true ∧
    touchesUndefined .rdHostUnk8 = true :=
  access_of_descriptor (d := 0x0020#16) rfl (by decide)

@[simp] theorem errorOf_rdHostUnk8 (s : State) : errorOf .rdHostUnk8 s = some .unknownRegister :=
  errorOf_of_undefined rfl (access_rdHostUnk8).2.2.2

@[simp] theorem access_rdHostUnk9 : bankOf .rdHostUnk9 = some .host ∧ slotOf .rdHostUnk9 = 9 ∧ isRead .rdHostUnk9 = true ∧
    touchesUndefined .rdHostUnk9 = true :=
  access_of_descriptor (d := 0x0024#16) rfl (by decide)

@[simp] theorem errorOf_rdHostUnk9 (s : State) : errorOf .rdHostUnk9 s = some .unknownRegister :=
  errorOf_of_undefined rfl (access_rdHostUnk9).2.2.2

@[simp] theorem access_rdHostUnk10 : bankOf .rdHostUnk10 = some .host ∧ slotOf .rdHostUnk10 = 10 ∧ isRead .rdHostUnk10 = true ∧
    touchesUndefined .rdHostUnk10 = true :=
  access_of_descriptor (d := 0x0028#16) rfl (by decide)

@[simp] theorem errorOf_rdHostUnk10 (s : State) : errorOf .rdHostUnk10 s = some .unknownRegister :=
  errorOf_of_undefined rfl (access_rdHostUnk10).2.2.2

@[simp] theorem access_rdHostUnk11 : bankOf .rdHostUnk11 = some .host ∧ slotOf .rdHostUnk11 = 11 ∧ isRead .rdHostUnk11 = true ∧
    touchesUndefined .rdHostUnk11 = true :=
  access_of_descriptor (d := 0x002C#16) rfl (by decide)

@[simp] theorem errorOf_rdHostUnk11 (s : State) : errorOf .rdHostUnk11 s = some .unknownRegister :=
  errorOf_of_undefined rfl (access_rdHostUnk11).2.2.2

@[simp] theorem access_rdHostUnk12 : bankOf .rdHostUnk12 = some .host ∧ slotOf .rdHostUnk12 = 12 ∧ isRead .rdHostUnk12 = true ∧
    touchesUndefined .rdHostUnk12 = true :=
  access_of_descriptor (d := 0x0030#16) rfl (by decide)

@[simp] theorem errorOf_rdHostUnk12 (s : State) : errorOf .rdHostUnk12 s = some .unknownRegister :=
  errorOf_of_undefined rfl (access_rdHostUnk12).2.2.2

@[simp] theorem access_rdHostUnk13 : bankOf .rdHostUnk13 = some .host ∧ slotOf .rdHostUnk13 = 13 ∧ isRead .rdHostUnk13 = true ∧
    touchesUndefined .rdHostUnk13 = true :=
  access_of_descriptor (d := 0x0034#16) rfl (by decide)

@[simp] theorem errorOf_rdHostUnk13 (s : State) : errorOf .rdHostUnk13 s = some .unknownRegister :=
  errorOf_of_undefined rfl (access_rdHostUnk13).2.2.2

@[simp] theorem access_rdHostUnk14 : bankOf .rdHostUnk14 = some .host ∧ slotOf .rdHostUnk14 = 14 ∧ isRead .rdHostUnk14 = true ∧
    touchesUndefined .rdHostUnk14 = true :=
  access_of_descriptor (d := 0x0038#16) rfl (by decide)

@[simp] theorem errorOf_rdHostUnk14 (s : State) : errorOf .rdHostUnk14 s = some .unknownRegister :=
  errorOf_of_undefined rfl (access_rdHostUnk14).2.2.2

@[simp] theorem access_rdHostRevision : bankOf .rdHostRevision = some .host ∧ slotOf .rdHostRevision = 15 ∧ isRead .rdHostRevision = true ∧
    touchesUndefined .rdHostRevision = false :=
  access_of_descriptor (d := 0x003C#16) rfl (by decide)

@[simp] theorem errorOf_rdHostRevision (s : State) : errorOf .rdHostRevision s = none :=
  errorOf_of_undefined rfl (access_rdHostRevision).2.2.2

@[simp] theorem access_rdMacUnk0 : bankOf .rdMacUnk0 = some .mac ∧ slotOf .rdMacUnk0 = 0 ∧ isRead .rdMacUnk0 = true ∧
    touchesUndefined .rdMacUnk0 = true :=
  access_of_descriptor (d := 0x1000#16) rfl (by decide)

@[simp] theorem errorOf_rdMacUnk0 (s : State) : errorOf .rdMacUnk0 s = some .unknownRegister :=
  errorOf_of_undefined rfl (access_rdMacUnk0).2.2.2

@[simp] theorem access_rdMacRxConfig : bankOf .rdMacRxConfig = some .mac ∧ slotOf .rdMacRxConfig = 1 ∧ isRead .rdMacRxConfig = true ∧
    touchesUndefined .rdMacRxConfig = false :=
  access_of_descriptor (d := 0x1004#16) rfl (by decide)

@[simp] theorem errorOf_rdMacRxConfig (s : State) : errorOf .rdMacRxConfig s = none :=
  errorOf_of_undefined rfl (access_rdMacRxConfig).2.2.2

@[simp] theorem access_rdMacTxConfig : bankOf .rdMacTxConfig = some .mac ∧ slotOf .rdMacTxConfig = 2 ∧ isRead .rdMacTxConfig = true ∧
    touchesUndefined .rdMacTxConfig = false :=
  access_of_descriptor (d := 0x1008#16) rfl (by decide)

@[simp] theorem errorOf_rdMacTxConfig (s : State) : errorOf .rdMacTxConfig s = none :=
  errorOf_of_undefined rfl (access_rdMacTxConfig).2.2.2

@[simp] theorem access_rdMacUnk3 : bankOf .rdMacUnk3 = some .mac ∧ slotOf .rdMacUnk3 = 3 ∧ isRead .rdMacUnk3 = true ∧
    touchesUndefined .rdMacUnk3 = true :=
  access_of_descriptor (d := 0x100C#16) rfl (by decide)

@[simp] theorem errorOf_rdMacUnk3 (s : State) : errorOf .rdMacUnk3 s = some .unknownRegister :=
  errorOf_of_undefined rfl (access_rdMacUnk3).2.2.2

@[simp] theorem access_rdMacSpeedConfig : bankOf .rdMacSpeedConfig = some .mac ∧ slotOf .rdMacSpeedConfig = 4 ∧ isRead .rdMacSpeedConfig = true ∧
    touchesUndefined .rdMacSpeedConfig = false :=
  access_of_descriptor (d := 0x1010#16) rfl (by decide)

@[simp] theorem errorOf_rdMacSpeedConfig (s : State) : errorOf .rdMacSpeedConfig s = none :=
  errorOf_of_undefined rfl (access_rdMacSpeedConfig).2.2.2

@[simp] theorem access_rdMacMdioConfig : bankOf .rdMacMdioConfig = some .mac ∧ slotOf .rdMacMdioConfig = 5 ∧ isRead .rdMacMdioConfig = true ∧
    touchesUndefined .rdMacMdioConfig = false :=
  access_of_descriptor (d := 0x1014#16) rfl (by decide)

@[simp] theorem errorOf_rdMacMdioConfig (s : State) : errorOf .rdMacMdioConfig s = none :=
  errorOf_of_undefined rfl (access_rdMacMdioConfig).2.2.2

@[simp] theorem access_rdMacUnk6 : bankOf .rdMacUnk6 = some .mac ∧ slotOf .rdMacUnk6 = 6 ∧ isRead .rdMacUnk6 = true ∧
    touchesUndefined .rdMacUnk6 = true :=
  access_of_descriptor (d := 0x1018#16) rfl (by decide)

@[simp] theorem errorOf_rdMacUnk6 (s : State) : errorOf .rdMacUnk6 s = some .unknownRegister :=
  errorOf_of_undefined rfl (access_rdMacUnk6).2.2.2

@[simp] theorem access_rdMacUnk7 : bankOf .rdMacUnk7 = some .mac ∧ slotOf .rdMacUnk7 = 7 ∧ isRead .rdMacUnk7 = true ∧
    touchesUndefined .rdMacUnk7 = true :=
  access_of_descriptor (d := 0x101C#16) rfl (by decide)

@[simp] theorem errorOf_rdMacUnk7 (s : State) : errorOf .rdMacUnk7 s = some .unknownRegister :=
  errorOf_of_undefined rfl (access_rdMacUnk7).2.2.2

@[simp] theorem access_rdMacUnk8 : bankOf .rdMacUnk8 = some .mac ∧ slotOf .rdMacUnk8 = 8 ∧ isRead .rdMacUnk8 = true ∧
    touchesUndefined .rdMacUnk8 = true :=
  access_of_descriptor (d := 0x1020#16) rfl (by decide)

@[simp] theorem errorOf_rdMacUnk8 (s : State) : errorOf .rdMacUnk8 s = some .unknownRegister :=
  errorOf_of_undefined rfl (access_rdMacUnk8).2.2.2

@[simp] theorem access_rdMacUnk9 : bankOf .rdMacUnk9 = some .mac ∧ slotOf .rdMacUnk9 = 9 ∧ isRead .rdMacUnk9 = true ∧
    touchesUndefined .rdMacUnk9 = true :=
  access_of_descriptor (d := 0x1024#16) rfl (by decide)

@[simp] theorem errorOf_rdMacUnk9 (s : State) : errorOf .rdMacUnk9 s = some .unknownRegister :=
  errorOf_of_undefined rfl (access_rdMacUnk9).2.2.2

@[simp] theorem access_rdMacUnk10 : bankOf .rdMacUnk10 = some .mac ∧ slotOf .rdMacUnk10 = 10 ∧ isRead .rdMacUnk10 = true ∧
    touchesUndefined .rdMacUnk10 = true :=
  access_of_descriptor (d := 0x1028#16) rfl (by decide)

@[simp] theorem errorOf_rdMacUnk10 (s : State) : errorOf .rdMacUnk10 s = some .unknownRegister :=
  errorOf_of_undefined rfl (access_rdMacUnk10).2.2.2

@[simp] theorem access_rdMacUnk11 : bankOf .rdMacUnk11 = some .mac ∧ slotOf .rdMacUnk11 = 11 ∧ isRead .rdMacUnk11 = true ∧
    touchesUndefined .rdMacUnk11 = true :=
  access_of_descriptor (d := 0x102C#16) rfl (by decide)

@[simp] theorem errorOf_rdMacUnk11 (s : State) : errorOf .rdMacUnk11 s = some .unknownRegister :=
  errorOf_of_undefined rfl (access_rdMacUnk11).2.2.2

@[simp] theorem access_rdMacUnk12 : bankOf .rdMacUnk12 = some .mac ∧ slotOf .rdMacUnk12 = 12 ∧ isRead .rdMacUnk12 = true ∧
    touchesUndefined .rdMacUnk12 = true :=
  access_of_descriptor (d := 0x1030#16) rfl (by decide)

@[simp] theorem errorOf_rdMacUnk12 (s : State) : errorOf .rdMacUnk12 s = some .unknownRegister :=
  errorOf_of_undefined rfl (access_rdMacUnk12).2.2.2

@[simp] theorem access_rdMacUnk13 : bankOf .rdMacUnk13 = some .mac ∧ slotOf .rdMacUnk13 = 13 ∧ isRead .rdMacUnk13 = true ∧
    touchesUndefined .rdMacUnk13 = true :=
  access_of_descriptor (d := 0x1034#16) rfl (by decide)

@[simp] theorem errorOf_rdMacUnk13 (s : State) : errorOf .rdMacUnk13 s = some .unknownRegister :=
  errorOf_of_undefined rfl (access_rdMacUnk13).2.2.2

@[simp] theorem access_rdMacUnk14 : bankOf .rdMacUnk14 = some .mac ∧ slotOf .rdMacUnk14 = 14 ∧ isRead .rdMacUnk14 = true ∧
    touchesUndefined .rdMacUnk14 = true :=
  access_of_descriptor (d := 0x1038#16) rfl (by decide)

@[simp] theorem errorOf_rdMacUnk14 (s : State) : errorOf .rdMacUnk14 s = some .unknownRegister :=
  errorOf_of_undefined rfl (access_rdMacUnk14).2.2.2

@[simp] theorem access_rdMacUnk15 : bankOf .rdMacUnk15 = some .mac ∧ slotOf .rdMacUnk15 = 15 ∧ isRead .rdMacUnk15 = true ∧
    touchesUndefined .rdMacUnk15 = true :=
  access_of_descriptor (d := 0x103C#16) rfl (by decide)

@[simp] theorem errorOf_rdMacUnk15 (s : State) : errorOf .rdMacUnk15 s = some .unknownRegister :=
  errorOf_of_undefined rfl (access_rdMacUnk15).2.2.2

@[simp] theorem access_rdFifoIntStatus : bankOf .rdFifoIntStatus = some .fifo ∧ slotOf .rdFifoIntStatus = 0 ∧ isRead .rdFifoIntStatus = true ∧
    touchesUndefined .rdFifoIntStatus = false :=
  access_of_descriptor (d := 0x2000#16) rfl (by decide)

@[simp] theorem errorOf_rdFifoIntStatus (s : State) : errorOf .rdFifoIntStatus s = none :=
  errorOf_of_undefined rfl (access_rdFifoIntStatus).2.2.2

@[simp] theorem access_rdFifoIntEnable : bankOf .rdFifoIntEnable = some .fifo ∧ slotOf .rdFifoIntEnable = 1 ∧ isRead .rdFifoIntEnable = true ∧
    touchesUndefined .rdFifoIntEnable = false :=
  access_of_descriptor (d := 0x2004#16) rfl (by decide)

@[simp] theorem errorOf_rdFifoIntEnable (s : State) : errorOf .rdFifoIntEnable s = none :=
  errorOf_of_undefined rfl (access_rdFifoIntEnable).2.2.2

@[simp] theorem access_rdFifoTxReset : bankOf .rdFifoTxReset = some .fifo ∧ slotOf .rdFifoTxReset = 2 ∧ isRead .rdFifoTxReset = true ∧
    touchesUndefined .rdFifoTxReset = false :=
  access_of_descriptor (d := 0x2008#16) rfl (by decide)

@[simp] theorem errorOf_rdFifoTxReset (s : State) : errorOf .rdFifoTxReset s = none :=
  errorOf_of_undefined rfl (access_rdFifoTxReset).2.2.2

@[simp] theorem access_rdFifoTxVacancy : bankOf .rdFifoTxVacancy = some .fifo ∧ slotOf .rdFifoTxVacancy = 3 ∧ isRead .rdFifoTxVacancy = true ∧
    touchesUndefined .rdFifoTxVacancy = false :=
  access_of_descriptor (d := 0x200C#16) rfl (by decide)

@[simp] theorem errorOf_rdFifoTxVacancy (s : State) : errorOf .rdFifoTxVacancy s = none :=
  errorOf_of_undefined rfl (access_rdFifoTxVacancy).2.2.2

@[simp] theorem access_rdFifoTxData : bankOf .rdFifoTxData = some .fifo ∧ slotOf .rdFifoTxData = 4 ∧ isRead .rdFifoTxData = true ∧
    touchesUndefined .rdFifoTxData = false :=
  access_of_descriptor (d := 0x2010#16) rfl (by decide)

@[simp] theorem errorOf_rdFifoTxData (s : State) : errorOf .rdFifoTxData s = none :=
  errorOf_of_undefined rfl (access_rdFifoTxData).2.2.2

@[simp] theorem access_rdFifoTxLength : bankOf .rdFifoTxLength = some .fifo ∧ slotOf .rdFifoTxLength = 5 ∧ isRead .rdFifoTxLength = true ∧
    touchesUndefined .rdFifoTxLength = false :=
  access_of_descriptor (d := 0x2014#16) rfl (by decide)

@[simp] theorem errorOf_rdFifoTxLength (s : State) : errorOf .rdFifoTxLength s = none :=
  errorOf_of_undefined rfl (access_rdFifoTxLength).2.2.2

@[simp] theorem access_rdFifoRxReset : bankOf .rdFifoRxReset = some .fifo ∧ slotOf .rdFifoRxReset = 6 ∧ isRead .rdFifoRxReset = true ∧
    touchesUndefined .rdFifoRxReset = false :=
  access_of_descriptor (d := 0x2018#16) rfl (by decide)

@[simp] theorem errorOf_rdFifoRxReset (s : State) : errorOf .rdFifoRxReset s = none :=
  errorOf_of_undefined rfl (access_rdFifoRxReset).2.2.2

@[simp] theorem access_rdFifoRxOccupancy : bankOf .rdFifoRxOccupancy = some .fifo ∧ slotOf .rdFifoRxOccupancy = 7 ∧ isRead .rdFifoRxOccupancy = true ∧
    touchesUndefined .rdFifoRxOccupancy = false :=
  access_of_descriptor (d := 0x201C#16) rfl (by decide)

@[simp] theorem errorOf_rdFifoRxOccupancy (s : State) : errorOf .rdFifoRxOccupancy s = none :=
  errorOf_of_undefined rfl (access_rdFifoRxOccupancy).2.2.2

@[simp] theorem access_rdFifoRxData : bankOf .rdFifoRxData = some .fifo ∧ slotOf .rdFifoRxData = 8 ∧ isRead .rdFifoRxData = true ∧
    touchesUndefined .rdFifoRxData = false :=
  access_of_descriptor (d := 0x2020#16) rfl (by decide)

@[simp] theorem errorOf_rdFifoRxData (s : State) :
    errorOf .rdFifoRxData s = (if s.rxd.isEmpty then some .rxUnderflow else none) := rfl

@[simp] theorem access_rdFifoRxLength : bankOf .rdFifoRxLength = some .fifo ∧ slotOf .rdFifoRxLength = 9 ∧ isRead .rdFifoRxLength = true ∧
    touchesUndefined .rdFifoRxLength = false :=
  access_of_descriptor (d := 0x2024#16) rfl (by decide)

@[simp] theorem errorOf_rdFifoRxLength (s : State) :
    errorOf .rdFifoRxLength s = (if s.rxl.isEmpty then some .rxUnderflow else none) := rfl

@[simp] theorem access_rdFifoUnk10 : bankOf .rdFifoUnk10 = some .fifo ∧ slotOf .rdFifoUnk10 = 10 ∧ isRead .rdFifoUnk10 = true ∧
    touchesUndefined .rdFifoUnk10 = true :=
  access_of_descriptor (d := 0x2028#16) rfl (by decide)

@[simp] theorem errorOf_rdFifoUnk10 (s : State) : errorOf .rdFifoUnk10 s = some .unknownRegister :=
  errorOf_of_undefined rfl (access_rdFifoUnk10).2.2.2

@[simp] theorem access_rdFifoUnk11 : bankOf .rdFifoUnk11 = some .fifo ∧ slotOf .rdFifoUnk11 = 11 ∧ isRead .rdFifoUnk11 = true ∧
    touchesUndefined .rdFifoUnk11 = true :=
  access_of_descriptor (d := 0x202C#16) rfl (by decide)

@[simp] theorem errorOf_rdFifoUnk11 (s : State) : errorOf .rdFifoUnk11 s = some .unknownRegister :=
  errorOf_of_undefined rfl (access_rdFifoUnk11).2.2.2

@[simp] theorem access_rdFifoUnk12 : bankOf .rdFifoUnk12 = some .fifo ∧ slotOf .rdFifoUnk12 = 12 ∧ isRead .rdFifoUnk12 = true ∧
    touchesUndefined .rdFifoUnk12 = true :=
  access_of_descriptor (d := 0x2030#16) rfl (by decide)

@[simp] theorem errorOf_rdFifoUnk12 (s : State) : errorOf .rdFifoUnk12 s = some .unknownRegister :=
  errorOf_of_undefined rfl (access_rdFifoUnk12).2.2.2

@[simp] theorem access_rdFifoUnk13 : bankOf .rdFifoUnk13 = some .fifo ∧ slotOf .rdFifoUnk13 = 13 ∧ isRead .rdFifoUnk13 = true ∧
    touchesUndefined .rdFifoUnk13 = true :=
  access_of_descriptor (d := 0x2034#16) rfl (by decide)

@[simp] theorem errorOf_rdFifoUnk13 (s : State) : errorOf .rdFifoUnk13 s = some .unknownRegister :=
  errorOf_of_undefined rfl (access_rdFifoUnk13).2.2.2

@[simp] theorem access_rdFifoUnk14 : bankOf .rdFifoUnk14 = some .fifo ∧ slotOf .rdFifoUnk14 = 14 ∧ isRead .rdFifoUnk14 = true ∧
    touchesUndefined .rdFifoUnk14 = true :=
  access_of_descriptor (d := 0x2038#16) rfl (by decide)

@[simp] theorem errorOf_rdFifoUnk14 (s : State) : errorOf .rdFifoUnk14 s = some .unknownRegister :=
  errorOf_of_undefined rfl (access_rdFifoUnk14).2.2.2

@[simp] theorem access_rdFifoUnk15 : bankOf .rdFifoUnk15 = some .fifo ∧ slotOf .rdFifoUnk15 = 15 ∧ isRead .rdFifoUnk15 = true ∧
    touchesUndefined .rdFifoUnk15 = true :=
  access_of_descriptor (d := 0x203C#16) rfl (by decide)

@[simp] theorem errorOf_rdFifoUnk15 (s : State) : errorOf .rdFifoUnk15 s = some .unknownRegister :=
  errorOf_of_undefined rfl (access_rdFifoUnk15).2.2.2

@[simp] theorem access_wrHostMdioCtrl (v : Word) : bankOf (.wrHostMdioCtrl v) = some .host ∧ slotOf (.wrHostMdioCtrl v) = 0 ∧ isRead (.wrHostMdioCtrl v) = false ∧
    touchesUndefined (.wrHostMdioCtrl v) = false :=
  access_of_descriptor (d := 0x4000#16) rfl (by decide)

@[simp] theorem errorOf_wrHostMdioCtrl (v : Word) (s : State) : errorOf (.wrHostMdioCtrl v) s = none :=
  errorOf_of_undefined rfl (access_wrHostMdioCtrl v).2.2.2

@[simp] theorem access_wrHostMdioData (v : Word) : bankOf (.wrHostMdioData v) = some .host ∧ slotOf (.wrHostMdioData v) = 1 ∧ isRead (.wrHostMdioData v) = false ∧
    touchesUndefined (.wrHostMdioData v) = false :=
  access_of_descriptor (d := 0x4004#16) rfl (by decide)

@[simp] theorem errorOf_wrHostMdioData (v : Word) (s : State) : errorOf (.wrHostMdioData v) s = none :=
  errorOf_of_undefined rfl (access_wrHostMdioData v).2.2.2

@[simp] theorem access_wrHostIrqMask (v : Word) : bankOf (.wrHostIrqMask v) = some .host ∧ slotOf (.wrHostIrqMask v) = 2 ∧ isRead (.wrHostIrqMask v) = false ∧
    touchesUndefined (.wrHostIrqMask v) = false :=
  access_of_descriptor (d := 0x4008#16) rfl (by decide)

@[simp] theorem errorOf_wrHostIrqMask (v : Word) (s : State) : errorOf (.wrHostIrqMask v) s = none :=
  errorOf_of_undefined rfl (access_wrHostIrqMask v).2.2.2

@[simp] theorem access_wrHostIrqFlags (v : Word) : bankOf (.wrHostIrqFlags v) = some .host ∧ slotOf (.wrHostIrqFlags v) = 3 ∧ isRead (.wrHostIrqFlags v) = false ∧
    touchesUndefined (.wrHostIrqFlags v) = false :=
  access_of_descriptor (d := 0x400C#16) rfl (by decide)

@[simp] theorem errorOf_wrHostIrqFlags (v : Word) (s : State) : errorOf (.wrHostIrqFlags v) s = none :=
  errorOf_of_undefined rfl (access_wrHostIrqFlags v).2.2.2

@[simp] theorem access_wrHostVlanMask (v : Word) : bankOf (.wrHostVlanMask v) = some .host ∧ slotOf (.wrHostVlanMask v) = 4 ∧ isRead (.wrHostVlanMask v) = false ∧
    touchesUndefined (.wrHostVlanMask v) = false :=
  access_of_descriptor (d := 0x4010#16) rfl (by decide)

@[simp] theorem errorOf_wrHostVlanMask (v : Word) (s : State) : errorOf (.wrHostVlanMask v) s = none :=
  errorOf_of_undefined rfl (access_wrHostVlanMask v).2.2.2

@[simp] theorem access_wrHostUnk5 (v : Word) : bankOf (.wrHostUnk5 v) = some .host ∧ slotOf (.wrHostUnk5 v) = 5 ∧ isRead (.wrHostUnk5 v) = false ∧
    touchesUndefined (.wrHostUnk5 v) = true :=
  access_of_descriptor (d := 0x4014#16) rfl (by decide)

@[simp] theorem errorOf_wrHostUnk5 (v : Word) (s : State) : errorOf (.wrHostUnk5 v) s = some .unknownRegister :=
  errorOf_of_undefined rfl (access_wrHostUnk5 v).2.2.2

@[simp] theorem access_wrHostUnk6 (v : Word) : bankOf (.wrHostUnk6 v) = some .host ∧ slotOf (.wrHostUnk6 v) = 6 ∧ isRead (.wrHostUnk6 v) = false ∧
    touchesUndefined (.wrHostUnk6 v) = true :=
  access_of_descriptor (d := 0x4018#16) rfl (by decide)

@[simp] theorem errorOf_wrHostUnk6 (v : Word) (s : State) : errorOf (.wrHostUnk6 v) s = some .unknownRegister :=
  errorOf_of_undefined rfl (access_wrHostUnk6 v).2.2.2

@[simp] theorem access_wrHostUnk7 (v : Word) : bankOf (.wrHostUnk7 v) = some .host ∧ slotOf (.wrHostUnk7 v) = 7 ∧ isRead (.wrHostUnk7 v) = false ∧
    touchesUndefined (.wrHostUnk7 v) = true :=
  access_of_descriptor (d := 0x401C#16) rfl (by decide)

@[simp] theorem errorOf_wrHostUnk7 (v : Word) (s : State) : errorOf (.wrHostUnk7 v) s = some .unknownRegister :=
  errorOf_of_undefined rfl (access_wrHostUnk7 v).2.2.2

@[simp] theorem access_wrHostUnk8 (v : Word) : bankOf (.wrHostUnk8 v) = some .host ∧ slotOf (.wrHostUnk8 v) = 8 ∧ isRead (.wrHostUnk8 v) = false ∧
    touchesUndefined (.wrHostUnk8 v) = true :=
  access_of_descriptor (d := 0x4020#16) rfl (by decide)

@[simp] theorem errorOf_wrHostUnk8 (v : Word) (s : State) : errorOf (.wrHostUnk8 v) s = some .unknownRegister :=
  errorOf_of_undefined rfl (access_wrHostUnk8 v).2.2.2

@[simp] theorem access_wrHostUnk9 (v : Word) : bankOf (.wrHostUnk9 v) = some .host ∧ slotOf (.wrHostUnk9 v) = 9 ∧ isRead (.wrHostUnk9 v) = false ∧
    touchesUndefined (.wrHostUnk9 v) = true :=
  access_of_descriptor (d := 0x4024#16) rfl (by decide)

@[simp] theorem errorOf_wrHostUnk9 (v : Word) (s : State) : errorOf (.wrHostUnk9 v) s = some .unknownRegister :=
  errorOf_of_undefined rfl (access_wrHostUnk9 v).2.2.2

@[simp] theorem access_wrHostUnk10 (v : Word) : bankOf (.wrHostUnk10 v) = some .host ∧ slotOf (.wrHostUnk10 v) = 10 ∧ isRead (.wrHostUnk10 v) = false ∧
    touchesUndefined (.wrHostUnk10 v) = true :=
  access_of_descriptor (d := 0x4028#16) rfl (by decide)

@[simp] theorem errorOf_wrHostUnk10 (v : Word) (s : State) : errorOf (.wrHostUnk10 v) s = some .unknownRegister :=
  errorOf_of_undefined rfl (access_wrHostUnk10 v).2.2.2

@[simp] theorem access_wrHostUnk11 (v : Word) : bankOf (.wrHostUnk11 v) = some .host ∧ slotOf (.wrHostUnk11 v) = 11 ∧ isRead (.wrHostUnk11 v) = false ∧
    touchesUndefined (.wrHostUnk11 v) = true :=
  access_of_descriptor (d := 0x402C#16) rfl (by decide)

@[simp] theorem errorOf_wrHostUnk11 (v : Word) (s : State) : errorOf (.wrHostUnk11 v) s = some .unknownRegister :=
  errorOf_of_undefined rfl (access_wrHostUnk11 v).2.2.2

@[simp] theorem access_wrHostUnk12 (v : Word) : bankOf (.wrHostUnk12 v) = some .host ∧ slotOf (.wrHostUnk12 v) = 12 ∧ isRead (.wrHostUnk12 v) = false ∧
    touchesUndefined (.wrHostUnk12 v) = true :=
  access_of_descriptor (d := 0x4030#16) rfl (by decide)

@[simp] theorem errorOf_wrHostUnk12 (v : Word) (s : State) : errorOf (.wrHostUnk12 v) s = some .unknownRegister :=
  errorOf_of_undefined rfl (access_wrHostUnk12 v).2.2.2

@[simp] theorem access_wrHostUnk13 (v : Word) : bankOf (.wrHostUnk13 v) = some .host ∧ slotOf (.wrHostUnk13 v) = 13 ∧ isRead (.wrHostUnk13 v) = false ∧
    touchesUndefined (.wrHostUnk13 v) = true :=
  access_of_descriptor (d := 0x4034#16) rfl (by decide)

@[simp] theorem errorOf_wrHostUnk13 (v : Word) (s : State) : errorOf (.wrHostUnk13 v) s = some .unknownRegister :=
  errorOf_of_undefined rfl (access_wrHostUnk13 v).2.2.2

@[simp] theorem access_wrHostUnk14 (v : Word) : bankOf (.wrHostUnk14 v) = some .host ∧ slotOf (.wrHostUnk14 v) = 14 ∧ isRead (.wrHostUnk14 v) = false ∧
    touchesUndefined (.wrHostUnk14 v) = true :=
  access_of_descriptor (d := 0x4038#16) rfl (by decide)

@[simp] theorem errorOf_wrHostUnk14 (v : Word) (s : State) : errorOf (.wrHostUnk14 v) s = some .unknownRegister :=
  errorOf_of_undefined rfl (access_wrHostUnk14 v).2.2.2

@[simp] theorem access_wrHostRevision (v : Word) : bankOf (.wrHostRevision v) = some .host ∧ slotOf (.wrHostRevision v) = 15 ∧ isRead (.wrHostRevision v) = false ∧
    touchesUndefined (.wrHostRevision v) = false :=
  access_of_descriptor (d := 0x403C#16) rfl (by decide)

@[simp] theorem errorOf_wrHostRevision (v : Word) (s : State) : errorOf (.wrHostRevision v) s = none :=
  errorOf_of_undefined rfl (access_wrHostRevision v).2.2.2

@[simp] theorem access_wrMacUnk0 (v : Word) : bankOf (.wrMacUnk0 v) = some .mac ∧ slotOf (.wrMacUnk0 v) = 0 ∧ isRead (.wrMacUnk0 v) = false ∧
    touchesUndefined (.wrMacUnk0 v) = true :=
  access_of_descriptor (d := 0x5000#16) rfl (by decide)

@[simp] theorem errorOf_wrMacUnk0 (v : Word) (s : State) : errorOf (.wrMacUnk0 v) s = some .unknownRegister :=
  errorOf_of_undefined rfl (access_wrMacUnk0 v).2.2.2

@[simp] theorem access_wrMacRxConfig (v : Word) : bankOf (.wrMacRxConfig v) = some .mac ∧ slotOf (.wrMacRxConfig v) = 1 ∧ isRead (.wrMacRxConfig v) = false ∧
    touchesUndefined (.wrMacRxConfig v) = false :=
  access_of_descriptor (d := 0x5004#16) rfl (by decide)

@[simp] theorem errorOf_wrMacRxConfig (v : Word) (s : State) : errorOf (.wrMacRxConfig v) s = none :=
  errorOf_of_undefined rfl (access_wrMacRxConfig v).2.2.2

@[simp] theorem access_wrMacTxConfig (v : Word) : bankOf (.wrMacTxConfig v) = some .mac ∧ slotOf (.wrMacTxConfig v) = 2 ∧ isRead (.wrMacTxConfig v) = false ∧
    touchesUndefined (.wrMacTxConfig v) = false :=
  access_of_descriptor (d := 0x5008#16) rfl (by decide)

@[simp] theorem errorOf_wrMacTxConfig (v : Word) (s : State) : errorOf (.wrMacTxConfig v) s = none :=
  errorOf_of_undefined rfl (access_wrMacTxConfig v).2.2.2

@[simp] theorem access_wrMacUnk3 (v : Word) : bankOf (.wrMacUnk3 v) = some .mac ∧ slotOf (.wrMacUnk3 v) = 3 ∧ isRead (.wrMacUnk3 v) = false ∧
    touchesUndefined (.wrMacUnk3 v) = true :=
  access_of_descriptor (d := 0x500C#16) rfl (by decide)

@[simp] theorem errorOf_wrMacUnk3 (v : Word) (s : State) : errorOf (.wrMacUnk3 v) s = some .unknownRegister :=
  errorOf_of_undefined rfl (access_wrMacUnk3 v).2.2.2

@[simp] theorem access_wrMacSpeedConfig (v : Word) : bankOf (.wrMacSpeedConfig v) = some .mac ∧ slotOf (.wrMacSpeedConfig v) = 4 ∧ isRead (.wrMacSpeedConfig v) = false ∧
    touchesUndefined (.wrMacSpeedConfig v) = false :=
  access_of_descriptor (d := 0x5010#16) rfl (by decide)

@[simp] theorem errorOf_wrMacSpeedConfig (v : Word) (s : State) : errorOf (.wrMacSpeedConfig v) s = none :=
  errorOf_of_undefined rfl (access_wrMacSpeedConfig v).2.2.2

@[simp] theorem access_wrMacMdioConfig (v : Word) : bankOf (.wrMacMdioConfig v) = some .mac ∧ slotOf (.wrMacMdioConfig v) = 5 ∧ isRead (.wrMacMdioConfig v) = false ∧
    touchesUndefined (.wrMacMdioConfig v) = false :=
  access_of_descriptor (d := 0x5014#16) rfl (by decide)

@[simp] theorem errorOf_wrMacMdioConfig (v : Word) (s : State) : errorOf (.wrMacMdioConfig v) s = none :=
  errorOf_of_undefined rfl (access_wrMacMdioConfig v).2.2.2

@[simp] theorem access_wrMacUnk6 (v : Word) : bankOf (.wrMacUnk6 v) = some .mac ∧ slotOf (.wrMacUnk6 v) = 6 ∧ isRead (.wrMacUnk6 v) = false ∧
    touchesUndefined (.wrMacUnk6 v) = true :=
  access_of_descriptor (d := 0x5018#16) rfl (by decide)

@[simp] theorem errorOf_wrMacUnk6 (v : Word) (s : State) : errorOf (.wrMacUnk6 v) s = some .unknownRegister :=
  errorOf_of_undefined rfl (access_wrMacUnk6 v).2.2.2

@[simp] theorem access_wrMacUnk7 (v : Word) : bankOf (.wrMacUnk7 v) = some .mac ∧ slotOf (.wrMacUnk7 v) = 7 ∧ isRead (.wrMacUnk7 v) = false ∧
    touchesUndefined (.wrMacUnk7 v) = true :=
  access_of_descriptor (d := 0x501C#16) rfl (by decide)

@[simp] theorem errorOf_wrMacUnk7 (v : Word) (s : State) : errorOf (.wrMacUnk7 v) s = some .unknownRegister :=
  errorOf_of_undefined rfl (access_wrMacUnk7 v).2.2.2

@[simp] theorem access_wrMacUnk8 (v : Word) : bankOf (.wrMacUnk8 v) = some .mac ∧ slotOf (.wrMacUnk8 v) = 8 ∧ isRead (.wrMacUnk8 v) = false ∧
    touchesUndefined (.wrMacUnk8 v) = true :=
  access_of_descriptor (d := 0x5020#16) rfl (by decide)

@[simp] theorem errorOf_wrMacUnk8 (v : Word) (s : State) : errorOf (.wrMacUnk8 v) s = some .unknownRegister :=
  errorOf_of_undefined rfl (access_wrMacUnk8 v).2.2.2

@[simp] theorem access_wrMacUnk9 (v : Word) : bankOf (.wrMacUnk9 v) = some .mac ∧ slotOf (.wrMacUnk9 v) = 9 ∧ isRead (.wrMacUnk9 v) = false ∧
    touchesUndefined (.wrMacUnk9 v) = true :=
  access_of_descriptor (d := 0x5024#16) rfl (by decide)

@[simp] theorem errorOf_wrMacUnk9 (v : Word) (s : State) : errorOf (.wrMacUnk9 v) s = some .unknownRegister :=
  errorOf_of_undefined rfl (access_wrMacUnk9 v).2.2.2

@[simp] theorem access_wrMacUnk10 (v : Word) : bankOf (.wrMacUnk10 v) = some .mac ∧ slotOf (.wrMacUnk10 v) = 10 ∧ isRead (.wrMacUnk10 v) = false ∧
    touchesUndefined (.wrMacUnk10 v) = true :=
  access_of_descriptor (d := 0x5028#16) rfl (by decide)

@[simp] theorem errorOf_wrMacUnk10 (v : Word) (s : State) : errorOf (.wrMacUnk10 v) s = some .unknownRegister :=
  errorOf_of_undefined rfl (access_wrMacUnk10 v).2.2.2

@[simp] theorem access_wrMacUnk11 (v : Word) : bankOf (.wrMacUnk11 v) = some .mac ∧ slotOf (.wrMacUnk11 v) = 11 ∧ isRead (.wrMacUnk11 v) = false ∧
    touchesUndefined (.wrMacUnk11 v) = true :=
  access_of_descriptor (d := 0x502C#16) rfl (by decide)

@[simp] theorem errorOf_wrMacUnk11 (v : Word) (s : State) : errorOf (.wrMacUnk11 v) s = some .unknownRegister :=
  errorOf_of_undefined rfl (access_wrMacUnk11 v).2.2.2

@[simp] theorem access_wrMacUnk12 (v : Word) : bankOf (.wrMacUnk12 v) = some .mac ∧ slotOf (.wrMacUnk12 v) = 12 ∧ isRead (.wrMacUnk12 v) = false ∧
    touchesUndefined (.wrMacUnk12 v) = true :=
  access_of_descriptor (d := 0x5030#16) rfl (by decide)

@[simp] theorem errorOf_wrMacUnk12 (v : Word) (s : State) : errorOf (.wrMacUnk12 v) s = some .unknownRegister :=
  errorOf_of_undefined rfl (access_wrMacUnk12 v).2.2.2

@[simp] theorem access_wrMacUnk13 (v : Word) : bankOf (.wrMacUnk13 v) = some .mac ∧ slotOf (.wrMacUnk13 v) = 13 ∧ isRead (.wrMacUnk13 v) = false ∧
    touchesUndefined (.wrMacUnk13 v) = true :=
  access_of_descriptor (d := 0x5034#16) rfl (by decide)

@[simp] theorem errorOf_wrMacUnk13 (v : Word) (s : State) : errorOf (.wrMacUnk13 v) s = some .unknownRegister :=
  errorOf_of_undefined rfl (access_wrMacUnk13 v).2.2.2

@[simp] theorem access_wrMacUnk14 (v : Word) : bankOf (.wrMacUnk14 v) = some .mac ∧ slotOf (.wrMacUnk14 v) = 14 ∧ isRead (.wrMacUnk14 v) = false ∧
    touchesUndefined (.wrMacUnk14 v) = true :=
  access_of_descriptor (d := 0x5038#16) rfl (by decide)

@[simp] theorem errorOf_wrMacUnk14 (v : Word) (s : State) : errorOf (.wrMacUnk14 v) s = some .unknownRegister :=
  errorOf_of_undefined rfl (access_wrMacUnk14 v).2.2.2

@[simp] theorem access_wrMacUnk15 (v : Word) : bankOf (.wrMacUnk15 v) = some .mac ∧ slotOf (.wrMacUnk15 v) = 15 ∧ isRead (.wrMacUnk15 v) = false ∧
    touchesUndefined (.wrMacUnk15 v) = true :=
  access_of_descriptor (d := 0x503C#16) rfl (by decide)

@[simp] theorem errorOf_wrMacUnk15 (v : Word) (s : State) : errorOf (.wrMacUnk15 v) s = some .unknownRegister :=
  errorOf_of_undefined rfl (access_wrMacUnk15 v).2.2.2

@[simp] theorem access_wrFifoIntStatus (v : Word) : bankOf (.wrFifoIntStatus v) = some .fifo ∧ slotOf (.wrFifoIntStatus v) = 0 ∧ isRead (.wrFifoIntStatus v) = false ∧
    touchesUndefined (.wrFifoIntStatus v) = false :=
  access_of_descriptor (d := 0x6000#16) rfl (by decide)

@[simp] theorem errorOf_wrFifoIntStatus (v : Word) (s : State) : errorOf (.wrFifoIntStatus v) s = none :=
  errorOf_of_undefined rfl (access_wrFifoIntStatus v).2.2.2

@[simp] theorem access_wrFifoIntEnable (v : Word) : bankOf (.wrFifoIntEnable v) = some .fifo ∧ slotOf (.wrFifoIntEnable v) = 1 ∧ isRead (.wrFifoIntEnable v) = false ∧
    touchesUndefined (.wrFifoIntEnable v) = false :=
  access_of_descriptor (d := 0x6004#16) rfl (by decide)

@[simp] theorem errorOf_wrFifoIntEnable (v : Word) (s : State) : errorOf (.wrFifoIntEnable v) s = none :=
  errorOf_of_undefined rfl (access_wrFifoIntEnable v).2.2.2

@[simp] theorem access_wrFifoTxReset (v : Word) : bankOf (.wrFifoTxReset v) = some .fifo ∧ slotOf (.wrFifoTxReset v) = 2 ∧ isRead (.wrFifoTxReset v) = false ∧
    touchesUndefined (.wrFifoTxReset v) = false :=
  access_of_descriptor (d := 0x6008#16) rfl (by decide)

@[simp] theorem errorOf_wrFifoTxReset (v : Word) (s : State) :
    errorOf (.wrFifoTxReset v) s = (if v = 0x000000A5#32 then none else some .invalidReset) := rfl

@[simp] theorem access_wrFifoTxVacancy (v : Word) : bankOf (.wrFifoTxVacancy v) = some .fifo ∧ slotOf (.wrFifoTxVacancy v) = 3 ∧ isRead (.wrFifoTxVacancy v) = false ∧
    touchesUndefined (.wrFifoTxVacancy v) = false :=
  access_of_descriptor (d := 0x600C#16) rfl (by decide)

@[simp] theorem errorOf_wrFifoTxVacancy (v : Word) (s : State) : errorOf (.wrFifoTxVacancy v) s = none :=
  errorOf_of_undefined rfl (access_wrFifoTxVacancy v).2.2.2

@[simp] theorem access_wrFifoTxData (v : Word) : bankOf (.wrFifoTxData v) = some .fifo ∧ slotOf (.wrFifoTxData v) = 4 ∧ isRead (.wrFifoTxData v) = false ∧
    touchesUndefined (.wrFifoTxData v) = false :=
  access_of_descriptor (d := 0x6010#16) rfl (by decide)

@[simp] theorem errorOf_wrFifoTxData (v : Word) (s : State) :
    errorOf (.wrFifoTxData v) s = (if s.txl.isFull || s.txd.isFull then some .txOverflow else none) := rfl

@[simp] theorem access_wrFifoTxLength (v : Word) : bankOf (.wrFifoTxLength v) = some .fifo ∧ slotOf (.wrFifoTxLength v) = 5 ∧ isRead (.wrFifoTxLength v) = false ∧
    touchesUndefined (.wrFifoTxLength v) = false :=
  access_of_descriptor (d := 0x6014#16) rfl (by decide)

@[simp] theorem errorOf_wrFifoTxLength (v : Word) (s : State) :
    errorOf (.wrFifoTxLength v) s = (if s.txl.isFull then some .txOverflow else none) := rfl

@[simp] theorem access_wrFifoRxReset (v : Word) : bankOf (.wrFifoRxReset v) = some .fifo ∧ slotOf (.wrFifoRxReset v) = 6 ∧ isRead (.wrFifoRxReset v) = false ∧
    touchesUndefined (.wrFifoRxReset v) = false :=
  access_of_descriptor (d := 0x6018#16) rfl (by decide)

@[simp] theorem errorOf_wrFifoRxReset (v : Word) (s : State) :
    errorOf (.wrFifoRxReset v) s = (if v = 0x000000A5#32 then none else some .invalidReset) := rfl

@[simp] theorem access_wrFifoRxOccupancy (v : Word) : bankOf (.wrFifoRxOccupancy v) = some .fifo ∧ slotOf (.wrFifoRxOccupancy v) = 7 ∧ isRead (.wrFifoRxOccupancy v) = false ∧
    touchesUndefined (.wrFifoRxOccupancy v) = false :=
  access_of_descriptor (d := 0x601C#16) rfl (by decide)

@[simp] theorem errorOf_wrFifoRxOccupancy (v : Word) (s : State) : errorOf (.wrFifoRxOccupancy v) s = none :=
  errorOf_of_undefined rfl (access_wrFifoRxOccupancy v).2.2.2

@[simp] theorem access_wrFifoRxData (v : Word) : bankOf (.wrFifoRxData v) = some .fifo ∧ slotOf (.wrFifoRxData v) = 8 ∧ isRead (.wrFifoRxData v) = false ∧
    touchesUndefined (.wrFifoRxData v) = false :=
  access_of_descriptor (d := 0x6020#16) rfl (by decide)

@[simp] theorem errorOf_wrFifoRxData (v : Word) (s : State) : errorOf (.wrFifoRxData v) s = none :=
  errorOf_of_undefined rfl (access_wrFifoRxData v).2.2.2

@[simp] theorem access_wrFifoRxLength (v : Word) : bankOf (.wrFifoRxLength v) = some .fifo ∧ slotOf (.wrFifoRxLength v) = 9 ∧ isRead (.wrFifoRxLength v) = false ∧
    touchesUndefined (.wrFifoRxLength v) = false :=
  access_of_descriptor (d := 0x6024#16) rfl (by decide)

@[simp] theorem errorOf_wrFifoRxLength (v : Word) (s : State) : errorOf (.wrFifoRxLength v) s = none :=
  errorOf_of_undefined rfl (access_wrFifoRxLength v).2.2.2

@[simp] theorem access_wrFifoUnk10 (v : Word) : bankOf (.wrFifoUnk10 v) = some .fifo ∧ slotOf (.wrFifoUnk10 v) = 10 ∧ isRead (.wrFifoUnk10 v) = false ∧
    touchesUndefined (.wrFifoUnk10 v) = true :=
  access_of_descriptor (d := 0x6028#16) rfl (by decide)

@[simp] theorem errorOf_wrFifoUnk10 (v : Word) (s : State) : errorOf (.wrFifoUnk10 v) s = some .unknownRegister :=
  errorOf_of_undefined rfl (access_wrFifoUnk10 v).2.2.2

@[simp] theorem access_wrFifoUnk11 (v : Word) : bankOf (.wrFifoUnk11 v) = some .fifo ∧ slotOf (.wrFifoUnk11 v) = 11 ∧ isRead (.wrFifoUnk11 v) = false ∧
    touchesUndefined (.wrFifoUnk11 v) = true :=
  access_of_descriptor (d := 0x602C#16) rfl (by decide)

@[simp] theorem errorOf_wrFifoUnk11 (v : Word) (s : State) : errorOf (.wrFifoUnk11 v) s = some .unknownRegister :=
  errorOf_of_undefined rfl (access_wrFifoUnk11 v).2.2.2

@[simp] theorem access_wrFifoUnk12 (v : Word) : bankOf (.wrFifoUnk12 v) = some .fifo ∧ slotOf (.wrFifoUnk12 v) = 12 ∧ isRead (.wrFifoUnk12 v) = false ∧
    touchesUndefined (.wrFifoUnk12 v) = true :=
  access_of_descriptor (d := 0x6030#16) rfl (by decide)

@[simp] theorem errorOf_wrFifoUnk12 (v : Word) (s : State) : errorOf (.wrFifoUnk12 v) s = some .unknownRegister :=
  errorOf_of_undefined rfl (access_wrFifoUnk12 v).2.2.2

@[simp] theorem access_wrFifoUnk13 (v : Word) : bankOf (.wrFifoUnk13 v) = some .fifo ∧ slotOf (.wrFifoUnk13 v) = 13 ∧ isRead (.wrFifoUnk13 v) = false ∧
    touchesUndefined (.wrFifoUnk13 v) = true :=
  access_of_descriptor (d := 0x6034#16) rfl (by decide)

@[simp] theorem errorOf_wrFifoUnk13 (v : Word) (s : State) : errorOf (.wrFifoUnk13 v) s = some .unknownRegister :=
  errorOf_of_undefined rfl (access_wrFifoUnk13 v).2.2.2

@[simp] theorem access_wrFifoUnk14 (v : Word) : bankOf (.wrFifoUnk14 v) = some .fifo ∧ slotOf (.wrFifoUnk14 v) = 14 ∧ isRead (.wrFifoUnk14 v) = false ∧
    touchesUndefined (.wrFifoUnk14 v) = true :=
  access_of_descriptor (d := 0x6038#16) rfl (by decide)

@[simp] theorem errorOf_wrFifoUnk14 (v : Word) (s : State) : errorOf (.wrFifoUnk14 v) s = some .unknownRegister :=
  errorOf_of_undefined rfl (access_wrFifoUnk14 v).2.2.2

@[simp] theorem access_wrFifoUnk15 (v : Word) : bankOf (.wrFifoUnk15 v) = some .fifo ∧ slotOf (.wrFifoUnk15 v) = 15 ∧ isRead (.wrFifoUnk15 v) = false ∧
    touchesUndefined (.wrFifoUnk15 v) = true :=
  access_of_descriptor (d := 0x603C#16) rfl (by decide)

@[simp] theorem errorOf_wrFifoUnk15 (v : Word) (s : State) : errorOf (.wrFifoUnk15 v) s = some .unknownRegister :=
  errorOf_of_undefined rfl (access_wrFifoUnk15 v).2.2.2

@[simp] theorem access_portRxCanAccept : bankOf .portRxCanAccept = none ∧ isRead .portRxCanAccept = false ∧ touchesUndefined .portRxCanAccept = false := port_of_descriptor (d := 0x8000#16) rfl (by decide)

@[simp] theorem errorOf_portRxCanAccept (s : State) : errorOf .portRxCanAccept s = none :=
  errorOf_of_undefined rfl (access_portRxCanAccept).2.2

@[simp] theorem access_portRxDeliver (frame : List Byte) : bankOf (.portRxDeliver frame) = none ∧ isRead (.portRxDeliver frame) = false ∧ touchesUndefined (.portRxDeliver frame) = false := port_of_descriptor (d := 0x8001#16) rfl (by decide)

@[simp] theorem errorOf_portRxDeliver (frame : List Byte) (s : State) : errorOf (.portRxDeliver frame) s = none :=
  errorOf_of_undefined rfl (access_portRxDeliver frame).2.2

end Sys2Proof.Machine
end

