-- ==== Sys2Proof/Laws/Flags.lean ====
section
/-! SUPPORT. The status masks, write-1-to-clear and the interrupt lines, bit by bit. -/

namespace Sys2Proof.Machine

/-- A one-bit mask has its one bit. -/
theorem mask_getLsbD (b : Fin 32) (k : Nat) : (1#32 <<< b.val).getLsbD k = decide (k = b.val) := by
  have := b.isLt
  simp only [BitVec.getLsbD_shiftLeft, BitVec.getLsbD_one]
  by_cases h : k = b.val
  · simp [h, this]
  · simp [h]
    omega

theorem mRpure_getLsbD (p : Config.Params) (k : Nat) : (mRpure p).getLsbD k = decide (k = p.bitRpure.val) :=
  mask_getLsbD _ k

theorem mTpoe_getLsbD (p : Config.Params) (k : Nat) : (mTpoe p).getLsbD k = decide (k = p.bitTpoe.val) :=
  mask_getLsbD _ k

theorem mTc_getLsbD (p : Config.Params) (k : Nat) : (mTc p).getLsbD k = decide (k = p.bitTc.val) :=
  mask_getLsbD _ k

/-- Write-1-to-clear keeps a bit exactly when it is not written 1. -/
theorem w1c_getLsbD {n : Nat} (status clear : BitVec n) (k : Nat) (h : k < n) :
    (w1c status clear).getLsbD k = (status.getLsbD k && !clear.getLsbD k) := by
  simp [w1c, h]

/-- Two words have a common bit exactly when their conjunction is not zero. -/
theorem and_ne_zero_iff {n : Nat} (a b : BitVec n) :
    (a &&& b) ≠ 0 ↔ ∃ k, k < n ∧ a.getLsbD k = true ∧ b.getLsbD k = true := by
  constructor
  · intro h
    by_contra hc
    refine h (BitVec.eq_of_getLsbD_eq fun k hk => ?_)
    have := not_exists.1 hc k
    simp only [hk, true_and, not_and, Bool.not_eq_true] at this
    cases ha : a.getLsbD k <;> simp [ha, this]
  · rintro ⟨k, hk, ha, hb⟩ h
    have := congrArg (fun z => z.getLsbD k) h
    simp [ha, hb] at this

end Sys2Proof.Machine
end

