-- ==== Sys2Proof/Laws/PerInstr.lean ====
section
/-! SUPPORT. The per-instruction family `Admitted`: every instruction, with every operand, encodes to an
operation the device admits. -/

namespace Sys2Proof.Laws.Admitted

/-- The encoding of `i` is well formed. -/
def Statement (i : Instr) : Prop := (encode i).wellFormed = true

/-- The value a write carries has no say in whether it is admitted. -/
theorem of_value (d : BitVec 16) (v : Word) (h : (bareOperation d).wellFormed = true) :
    (writeOperation d v).wellFormed = true := h

/-- The frame a delivery carries has no say in whether it is admitted. -/
theorem of_frame (d : BitVec 16) (frame : List Byte) (h : (bareOperation d).wellFormed = true) :
    (⟨d, 4, 0, frame⟩ : Operation).wellFormed = true := h

theorem rdHostMdioCtrl : Statement .rdHostMdioCtrl := rfl
theorem rdHostMdioData : Statement .rdHostMdioData := rfl
theorem rdHostIrqMask : Statement .rdHostIrqMask := rfl
theorem rdHostIrqFlags : Statement .rdHostIrqFlags := rfl
theorem rdHostVlanMask : Statement .rdHostVlanMask := rfl
theorem rdHostUnk5 : Statement .rdHostUnk5 := rfl
theorem rdHostUnk6 : Statement .rdHostUnk6 := rfl
theorem rdHostUnk7 : Statement .rdHostUnk7 := rfl
theorem rdHostUnk8 : Statement .rdHostUnk8 := rfl
theorem rdHostUnk9 : Statement .rdHostUnk9 := rfl
theorem rdHostUnk10 : Statement .rdHostUnk10 := rfl
theorem rdHostUnk11 : Statement .rdHostUnk11 := rfl
theorem rdHostUnk12 : Statement .rdHostUnk12 := rfl
theorem rdHostUnk13 : Statement .rdHostUnk13 := rfl
theorem rdHostUnk14 : Statement .rdHostUnk14 := rfl
theorem rdHostRevision : Statement .rdHostRevision := rfl
theorem rdMacUnk0 : Statement .rdMacUnk0 := rfl
theorem rdMacRxConfig : Statement .rdMacRxConfig := rfl
theorem rdMacTxConfig : Statement .rdMacTxConfig := rfl
theorem rdMacUnk3 : Statement .rdMacUnk3 := rfl
theorem rdMacSpeedConfig : Statement .rdMacSpeedConfig := rfl
theorem rdMacMdioConfig : Statement .rdMacMdioConfig := rfl
theorem rdMacUnk6 : Statement .rdMacUnk6 := rfl
theorem rdMacUnk7 : Statement .rdMacUnk7 := rfl
theorem rdMacUnk8 : Statement .rdMacUnk8 := rfl
theorem rdMacUnk9 : Statement .rdMacUnk9 := rfl
theorem rdMacUnk10 : Statement .rdMacUnk10 := rfl
theorem rdMacUnk11 : Statement .rdMacUnk11 := rfl
theorem rdMacUnk12 : Statement .rdMacUnk12 := rfl
theorem rdMacUnk13 : Statement .rdMacUnk13 := rfl
theorem rdMacUnk14 : Statement .rdMacUnk14 := rfl
theorem rdMacUnk15 : Statement .rdMacUnk15 := rfl
theorem rdFifoIntStatus : Statement .rdFifoIntStatus := rfl
theorem rdFifoIntEnable : Statement .rdFifoIntEnable := rfl
theorem rdFifoTxReset : Statement .rdFifoTxReset := rfl
theorem rdFifoTxVacancy : Statement .rdFifoTxVacancy := rfl
theorem rdFifoTxData : Statement .rdFifoTxData := rfl
theorem rdFifoTxLength : Statement .rdFifoTxLength := rfl
theorem rdFifoRxReset : Statement .rdFifoRxReset := rfl
theorem rdFifoRxOccupancy : Statement .rdFifoRxOccupancy := rfl
theorem rdFifoRxData : Statement .rdFifoRxData := rfl
theorem rdFifoRxLength : Statement .rdFifoRxLength := rfl
theorem rdFifoUnk10 : Statement .rdFifoUnk10 := rfl
theorem rdFifoUnk11 : Statement .rdFifoUnk11 := rfl
theorem rdFifoUnk12 : Statement .rdFifoUnk12 := rfl
theorem rdFifoUnk13 : Statement .rdFifoUnk13 := rfl
theorem rdFifoUnk14 : Statement .rdFifoUnk14 := rfl
theorem rdFifoUnk15 : Statement .rdFifoUnk15 := rfl
theorem wrHostMdioCtrl (v : Word) : Statement (.wrHostMdioCtrl v) := of_value 0x4000#16 v rfl
theorem wrHostMdioData (v : Word) : Statement (.wrHostMdioData v) := of_value 0x4004#16 v rfl
theorem wrHostIrqMask (v : Word) : Statement (.wrHostIrqMask v) := of_value 0x4008#16 v rfl
theorem wrHostIrqFlags (v : Word) : Statement (.wrHostIrqFlags v) := of_value 0x400C#16 v rfl
theorem wrHostVlanMask (v : Word) : Statement (.wrHostVlanMask v) := of_value 0x4010#16 v rfl
theorem wrHostUnk5 (v : Word) : Statement (.wrHostUnk5 v) := of_value 0x4014#16 v rfl
theorem wrHostUnk6 (v : Word) : Statement (.wrHostUnk6 v) := of_value 0x4018#16 v rfl
theorem wrHostUnk7 (v : Word) : Statement (.wrHostUnk7 v) := of_value 0x401C#16 v rfl
theorem wrHostUnk8 (v : Word) : Statement (.wrHostUnk8 v) := of_value 0x4020#16 v rfl
theorem wrHostUnk9 (v : Word) : Statement (.wrHostUnk9 v) := of_value 0x4024#16 v rfl
theorem wrHostUnk10 (v : Word) : Statement (.wrHostUnk10 v) := of_value 0x4028#16 v rfl
theorem wrHostUnk11 (v : Word) : Statement (.wrHostUnk11 v) := of_value 0x402C#16 v rfl
theorem wrHostUnk12 (v : Word) : Statement (.wrHostUnk12 v) := of_value 0x4030#16 v rfl
theorem wrHostUnk13 (v : Word) : Statement (.wrHostUnk13 v) := of_value 0x4034#16 v rfl
theorem wrHostUnk14 (v : Word) : Statement (.wrHostUnk14 v) := of_value 0x4038#16 v rfl
theorem wrHostRevision (v : Word) : Statement (.wrHostRevision v) := of_value 0x403C#16 v rfl
theorem wrMacUnk0 (v : Word) : Statement (.wrMacUnk0 v) := of_value 0x5000#16 v rfl
theorem wrMacRxConfig (v : Word) : Statement (.wrMacRxConfig v) := of_value 0x5004#16 v rfl
theorem wrMacTxConfig (v : Word) : Statement (.wrMacTxConfig v) := of_value 0x5008#16 v rfl
theorem wrMacUnk3 (v : Word) : Statement (.wrMacUnk3 v) := of_value 0x500C#16 v rfl
theorem wrMacSpeedConfig (v : Word) : Statement (.wrMacSpeedConfig v) := of_value 0x5010#16 v rfl
theorem wrMacMdioConfig (v : Word) : Statement (.wrMacMdioConfig v) := of_value 0x5014#16 v rfl
theorem wrMacUnk6 (v : Word) : Statement (.wrMacUnk6 v) := of_value 0x5018#16 v rfl
theorem wrMacUnk7 (v : Word) : Statement (.wrMacUnk7 v) := of_value 0x501C#16 v rfl
theorem wrMacUnk8 (v : Word) : Statement (.wrMacUnk8 v) := of_value 0x5020#16 v rfl
theorem wrMacUnk9 (v : Word) : Statement (.wrMacUnk9 v) := of_value 0x5024#16 v rfl
theorem wrMacUnk10 (v : Word) : Statement (.wrMacUnk10 v) := of_value 0x5028#16 v rfl
theorem wrMacUnk11 (v : Word) : Statement (.wrMacUnk11 v) := of_value 0x502C#16 v rfl
theorem wrMacUnk12 (v : Word) : Statement (.wrMacUnk12 v) := of_value 0x5030#16 v rfl
theorem wrMacUnk13 (v : Word) : Statement (.wrMacUnk13 v) := of_value 0x5034#16 v rfl
theorem wrMacUnk14 (v : Word) : Statement (.wrMacUnk14 v) := of_value 0x5038#16 v rfl
theorem wrMacUnk15 (v : Word) : Statement (.wrMacUnk15 v) := of_value 0x503C#16 v rfl
theorem wrFifoIntStatus (v : Word) : Statement (.wrFifoIntStatus v) := of_value 0x6000#16 v rfl
theorem wrFifoIntEnable (v : Word) : Statement (.wrFifoIntEnable v) := of_value 0x6004#16 v rfl
theorem wrFifoTxReset (v : Word) : Statement (.wrFifoTxReset v) := of_value 0x6008#16 v rfl
theorem wrFifoTxVacancy (v : Word) : Statement (.wrFifoTxVacancy v) := of_value 0x600C#16 v rfl
theorem wrFifoTxData (v : Word) : Statement (.wrFifoTxData v) := of_value 0x6010#16 v rfl
theorem wrFifoTxLength (v : Word) : Statement (.wrFifoTxLength v) := of_value 0x6014#16 v rfl
theorem wrFifoRxReset (v : Word) : Statement (.wrFifoRxReset v) := of_value 0x6018#16 v rfl
theorem wrFifoRxOccupancy (v : Word) : Statement (.wrFifoRxOccupancy v) := of_value 0x601C#16 v rfl
theorem wrFifoRxData (v : Word) : Statement (.wrFifoRxData v) := of_value 0x6020#16 v rfl
theorem wrFifoRxLength (v : Word) : Statement (.wrFifoRxLength v) := of_value 0x6024#16 v rfl
theorem wrFifoUnk10 (v : Word) : Statement (.wrFifoUnk10 v) := of_value 0x6028#16 v rfl
theorem wrFifoUnk11 (v : Word) : Statement (.wrFifoUnk11 v) := of_value 0x602C#16 v rfl
theorem wrFifoUnk12 (v : Word) : Statement (.wrFifoUnk12 v) := of_value 0x6030#16 v rfl
theorem wrFifoUnk13 (v : Word) : Statement (.wrFifoUnk13 v) := of_value 0x6034#16 v rfl
theorem wrFifoUnk14 (v : Word) : Statement (.wrFifoUnk14 v) := of_value 0x6038#16 v rfl
theorem wrFifoUnk15 (v : Word) : Statement (.wrFifoUnk15 v) := of_value 0x603C#16 v rfl
theorem portRxCanAccept : Statement .portRxCanAccept := rfl
theorem portRxDeliver (frame : List Byte) : Statement (.portRxDeliver frame) := of_frame 0x8001#16 frame rfl

end Sys2Proof.Laws.Admitted
end

