-- ==== Sys2Proof/Laws/Rings.lean ====
section
/-! SUPPORT. The arithmetic of the ring primitives, once: positions, occupancy without the modulus, what each
primitive leaves, and the words of a ring by their place in it. -/

namespace Sys2Proof.Machine

variable {N : Nat}

theorem RingBuffer.capacity_pos (r : RingBuffer N) : 0 < N := Nat.zero_lt_of_lt r.popIdx.isLt

@[simp] theorem RingBuffer.position_val (r : RingBuffer N) (n : Nat) : (r.position n).val = n % N := rfl

/-- Positions depend on the capacity alone. -/
theorem RingBuffer.position_congr (r q : RingBuffer N) (n : Nat) : r.position n = q.position n := rfl

theorem RingBuffer.wordAt_eq (r : RingBuffer N) (i : Fin N) : r.wordAt i = r.mem[i.val] := rfl

theorem RingBuffer.occ_of_le (r : RingBuffer N) (h : r.popIdx.val ≤ r.pushIdx.val) :
    r.occ = r.pushIdx.val - r.popIdx.val := by
  have hlt := r.pushIdx.isLt
  unfold RingBuffer.occ
  rw [Int.emod_eq_of_lt (by omega) (by omega)]
  omega

theorem RingBuffer.occ_of_lt (r : RingBuffer N) (h : r.pushIdx.val < r.popIdx.val) :
    r.occ = r.pushIdx.val + N - r.popIdx.val := by
  have hlt := r.popIdx.isLt
  unfold RingBuffer.occ
  rw [← Int.add_emod_right, Int.emod_eq_of_lt (by omega) (by omega)]
  omega

/-- Occupancy without the modulus: the one case split every later fact needs. -/
theorem RingBuffer.occ_cases (r : RingBuffer N) :
    (r.popIdx.val ≤ r.pushIdx.val ∧ r.occ = r.pushIdx.val - r.popIdx.val) ∨
      (r.pushIdx.val < r.popIdx.val ∧ r.occ = r.pushIdx.val + N - r.popIdx.val) := by
  rcases Nat.lt_or_ge r.pushIdx.val r.popIdx.val with h | h
  · exact .inr ⟨h, r.occ_of_lt h⟩
  · exact .inl ⟨h, r.occ_of_le h⟩

/-- A number below twice the capacity, reduced. -/
theorem mod_cases {a n : Nat} (h : a < 2 * n) : (a < n ∧ a % n = a) ∨ (n ≤ a ∧ a % n = a - n) := by
  rcases Nat.lt_or_ge a n with h1 | h1
  · exact .inl ⟨h1, Nat.mod_eq_of_lt h1⟩
  · exact .inr ⟨h1, by rw [Nat.mod_eq_sub_mod h1, Nat.mod_eq_of_lt (by omega)]⟩

theorem RingBuffer.isEmpty_iff (r : RingBuffer N) : r.isEmpty = true ↔ r.pushIdx.val = r.popIdx.val := by
  simp [RingBuffer.isEmpty, Fin.ext_iff]

theorem RingBuffer.isFull_iff (r : RingBuffer N) :
    r.isFull = true ↔ (r.pushIdx.val + 1) % N = r.popIdx.val := by
  simp [RingBuffer.isFull, Fin.ext_iff]

@[simp] theorem RingBuffer.push_popIdx (r : RingBuffer N) (v : Word) : (r.push v).popIdx = r.popIdx := rfl

@[simp] theorem RingBuffer.push_pushIdx (r : RingBuffer N) (v : Word) :
    (r.push v).pushIdx = r.position (r.pushIdx.val + 1) := rfl

theorem RingBuffer.push_wordAt (r : RingBuffer N) (v : Word) (i : Fin N) :
    (r.push v).wordAt i = if i = r.pushIdx then v else r.wordAt i := by
  simp only [RingBuffer.wordAt, RingBuffer.push, Vector.get_eq_getElem, Vector.getElem_set, Fin.ext_iff]
  by_cases h : i.val = r.pushIdx.val
  · simp [h]
  · simp [h, Ne.symm h]

theorem RingBuffer.pop_ring_of_empty (r : RingBuffer N) (h : r.isEmpty = true) : r.pop.ring = r := by
  simp [RingBuffer.pop, h]

theorem RingBuffer.pop_ring_of_nonempty (r : RingBuffer N) (h : r.isEmpty = false) :
    r.pop.ring = { r with popIdx := r.position (r.popIdx.val + 1) } := by
  simp [RingBuffer.pop, h]

@[simp] theorem RingBuffer.pop_word (r : RingBuffer N) : r.pop.word = r.peek := rfl

@[simp] theorem RingBuffer.pop_wasEmpty (r : RingBuffer N) : r.pop.wasEmpty = r.isEmpty := rfl

@[simp] theorem RingBuffer.take_ring (r : RingBuffer N) (k : Nat) :
    (r.take k).ring = { r with popIdx := r.position (r.popIdx.val + k) } := rfl

@[simp] theorem RingBuffer.take_words_length (r : RingBuffer N) (k : Nat) : (r.take k).words.length = k := by
  simp [RingBuffer.take]

@[simp] theorem RingBuffer.contents_length (r : RingBuffer N) : r.contents.length = r.occ := by
  simp [RingBuffer.contents]

/-- The word at place `k` of a ring's contents is the one `k` positions after the pop index. -/
theorem RingBuffer.contents_getElem (r : RingBuffer N) (k : Nat) (h : k < r.contents.length) :
    r.contents[k] = r.wordAt (r.position (r.popIdx.val + k)) := by
  simp [RingBuffer.contents, RingBuffer.take]

end Sys2Proof.Machine
end

