-- ==== Sys2Proof/Laws/State.lean ====
section
/-! SUPPORT. For each named update of the state, what every field reads after it; and what the meanings that
complete an access answer. -/

namespace Sys2Proof.Machine

@[simp] theorem State.raise_mdioCtrl (s : State) (m : Word) : (s.raise m).mdioCtrl = s.mdioCtrl := rfl
@[simp] theorem State.raise_mdioData (s : State) (m : Word) : (s.raise m).mdioData = s.mdioData := rfl
@[simp] theorem State.raise_hostMask (s : State) (m : Word) : (s.raise m).hostMask = s.hostMask := rfl
@[simp] theorem State.raise_hostFlags (s : State) (m : Word) : (s.raise m).hostFlags = s.hostFlags := rfl
@[simp] theorem State.raise_vlanMask (s : State) (m : Word) : (s.raise m).vlanMask = s.vlanMask := rfl
@[simp] theorem State.raise_fifoStatus (s : State) (m : Word) : (s.raise m).fifoStatus = s.fifoStatus ||| m := rfl
@[simp] theorem State.raise_fifoEnable (s : State) (m : Word) : (s.raise m).fifoEnable = s.fifoEnable := rfl
@[simp] theorem State.raise_shadow2 (s : State) (m : Word) : (s.raise m).shadow2 = s.shadow2 := rfl
@[simp] theorem State.raise_shadow4 (s : State) (m : Word) : (s.raise m).shadow4 = s.shadow4 := rfl
@[simp] theorem State.raise_shadow5 (s : State) (m : Word) : (s.raise m).shadow5 = s.shadow5 := rfl
@[simp] theorem State.raise_shadow6 (s : State) (m : Word) : (s.raise m).shadow6 = s.shadow6 := rfl
@[simp] theorem State.raise_txd (s : State) (m : Word) : (s.raise m).txd = s.txd := rfl
@[simp] theorem State.raise_txl (s : State) (m : Word) : (s.raise m).txl = s.txl := rfl
@[simp] theorem State.raise_rxd (s : State) (m : Word) : (s.raise m).rxd = s.rxd := rfl
@[simp] theorem State.raise_rxl (s : State) (m : Word) : (s.raise m).rxl = s.rxl := rfl
@[simp] theorem State.raise_inbox (s : State) (m : Word) : (s.raise m).inbox = s.inbox := rfl
@[simp] theorem State.raise_events (s : State) (m : Word) : (s.raise m).events = s.events := rfl
@[simp] theorem State.raise_replies (s : State) (m : Word) : (s.raise m).replies = s.replies := rfl

@[simp] theorem State.emit_mdioCtrl (s : State) (e : Event) : (s.emit e).mdioCtrl = s.mdioCtrl := rfl
@[simp] theorem State.emit_mdioData (s : State) (e : Event) : (s.emit e).mdioData = s.mdioData := rfl
@[simp] theorem State.emit_hostMask (s : State) (e : Event) : (s.emit e).hostMask = s.hostMask := rfl
@[simp] theorem State.emit_hostFlags (s : State) (e : Event) : (s.emit e).hostFlags = s.hostFlags := rfl
@[simp] theorem State.emit_vlanMask (s : State) (e : Event) : (s.emit e).vlanMask = s.vlanMask := rfl
@[simp] theorem State.emit_fifoStatus (s : State) (e : Event) : (s.emit e).fifoStatus = s.fifoStatus := rfl
@[simp] theorem State.emit_fifoEnable (s : State) (e : Event) : (s.emit e).fifoEnable = s.fifoEnable := rfl
@[simp] theorem State.emit_shadow2 (s : State) (e : Event) : (s.emit e).shadow2 = s.shadow2 := rfl
@[simp] theorem State.emit_shadow4 (s : State) (e : Event) : (s.emit e).shadow4 = s.shadow4 := rfl
@[simp] theorem State.emit_shadow5 (s : State) (e : Event) : (s.emit e).shadow5 = s.shadow5 := rfl
@[simp] theorem State.emit_shadow6 (s : State) (e : Event) : (s.emit e).shadow6 = s.shadow6 := rfl
@[simp] theorem State.emit_txd (s : State) (e : Event) : (s.emit e).txd = s.txd := rfl
@[simp] theorem State.emit_txl (s : State) (e : Event) : (s.emit e).txl = s.txl := rfl
@[simp] theorem State.emit_rxd (s : State) (e : Event) : (s.emit e).rxd = s.rxd := rfl
@[simp] theorem State.emit_rxl (s : State) (e : Event) : (s.emit e).rxl = s.rxl := rfl
@[simp] theorem State.emit_inbox (s : State) (e : Event) : (s.emit e).inbox = s.inbox := rfl
@[simp] theorem State.emit_events (s : State) (e : Event) : (s.emit e).events = s.events ++ [e] := rfl
@[simp] theorem State.emit_replies (s : State) (e : Event) : (s.emit e).replies = s.replies := rfl

@[simp] theorem State.reply_mdioCtrl (s : State) (r : Reply) : (s.reply r).mdioCtrl = s.mdioCtrl := rfl
@[simp] theorem State.reply_mdioData (s : State) (r : Reply) : (s.reply r).mdioData = s.mdioData := rfl
@[simp] theorem State.reply_hostMask (s : State) (r : Reply) : (s.reply r).hostMask = s.hostMask := rfl
@[simp] theorem State.reply_hostFlags (s : State) (r : Reply) : (s.reply r).hostFlags = s.hostFlags := rfl
@[simp] theorem State.reply_vlanMask (s : State) (r : Reply) : (s.reply r).vlanMask = s.vlanMask := rfl
@[simp] theorem State.reply_fifoStatus (s : State) (r : Reply) : (s.reply r).fifoStatus = s.fifoStatus := rfl
@[simp] theorem State.reply_fifoEnable (s : State) (r : Reply) : (s.reply r).fifoEnable = s.fifoEnable := rfl
@[simp] theorem State.reply_shadow2 (s : State) (r : Reply) : (s.reply r).shadow2 = s.shadow2 := rfl
@[simp] theorem State.reply_shadow4 (s : State) (r : Reply) : (s.reply r).shadow4 = s.shadow4 := rfl
@[simp] theorem State.reply_shadow5 (s : State) (r : Reply) : (s.reply r).shadow5 = s.shadow5 := rfl
@[simp] theorem State.reply_shadow6 (s : State) (r : Reply) : (s.reply r).shadow6 = s.shadow6 := rfl
@[simp] theorem State.reply_txd (s : State) (r : Reply) : (s.reply r).txd = s.txd := rfl
@[simp] theorem State.reply_txl (s : State) (r : Reply) : (s.reply r).txl = s.txl := rfl
@[simp] theorem State.reply_rxd (s : State) (r : Reply) : (s.reply r).rxd = s.rxd := rfl
@[simp] theorem State.reply_rxl (s : State) (r : Reply) : (s.reply r).rxl = s.rxl := rfl
@[simp] theorem State.reply_inbox (s : State) (r : Reply) : (s.reply r).inbox = s.inbox := rfl
@[simp] theorem State.reply_events (s : State) (r : Reply) : (s.reply r).events = s.events := rfl
@[simp] theorem State.reply_replies (s : State) (r : Reply) : (s.reply r).replies = s.replies ++ [r] := rfl

@[simp] theorem State.diagnoseUnknown_mdioCtrl (s : State) (bank : Bank) (slot : Fin 16) (dir : Dir) : (s.diagnoseUnknown bank slot dir).mdioCtrl = s.mdioCtrl := rfl
@[simp] theorem State.diagnoseUnknown_mdioData (s : State) (bank : Bank) (slot : Fin 16) (dir : Dir) : (s.diagnoseUnknown bank slot dir).mdioData = s.mdioData := rfl
@[simp] theorem State.diagnoseUnknown_hostMask (s : State) (bank : Bank) (slot : Fin 16) (dir : Dir) : (s.diagnoseUnknown bank slot dir).hostMask = s.hostMask := rfl
@[simp] theorem State.diagnoseUnknown_hostFlags (s : State) (bank : Bank) (slot : Fin 16) (dir : Dir) : (s.diagnoseUnknown bank slot dir).hostFlags = s.hostFlags := rfl
@[simp] theorem State.diagnoseUnknown_vlanMask (s : State) (bank : Bank) (slot : Fin 16) (dir : Dir) : (s.diagnoseUnknown bank slot dir).vlanMask = s.vlanMask := rfl
@[simp] theorem State.diagnoseUnknown_fifoStatus (s : State) (bank : Bank) (slot : Fin 16) (dir : Dir) : (s.diagnoseUnknown bank slot dir).fifoStatus = s.fifoStatus := rfl
@[simp] theorem State.diagnoseUnknown_fifoEnable (s : State) (bank : Bank) (slot : Fin 16) (dir : Dir) : (s.diagnoseUnknown bank slot dir).fifoEnable = s.fifoEnable := rfl
@[simp] theorem State.diagnoseUnknown_shadow2 (s : State) (bank : Bank) (slot : Fin 16) (dir : Dir) : (s.diagnoseUnknown bank slot dir).shadow2 = s.shadow2 := rfl
@[simp] theorem State.diagnoseUnknown_shadow4 (s : State) (bank : Bank) (slot : Fin 16) (dir : Dir) : (s.diagnoseUnknown bank slot dir).shadow4 = s.shadow4 := rfl
@[simp] theorem State.diagnoseUnknown_shadow5 (s : State) (bank : Bank) (slot : Fin 16) (dir : Dir) : (s.diagnoseUnknown bank slot dir).shadow5 = s.shadow5 := rfl
@[simp] theorem State.diagnoseUnknown_shadow6 (s : State) (bank : Bank) (slot : Fin 16) (dir : Dir) : (s.diagnoseUnknown bank slot dir).shadow6 = s.shadow6 := rfl
@[simp] theorem State.diagnoseUnknown_txd (s : State) (bank : Bank) (slot : Fin 16) (dir : Dir) : (s.diagnoseUnknown bank slot dir).txd = s.txd := rfl
@[simp] theorem State.diagnoseUnknown_txl (s : State) (bank : Bank) (slot : Fin 16) (dir : Dir) : (s.diagnoseUnknown bank slot dir).txl = s.txl := rfl
@[simp] theorem State.diagnoseUnknown_rxd (s : State) (bank : Bank) (slot : Fin 16) (dir : Dir) : (s.diagnoseUnknown bank slot dir).rxd = s.rxd := rfl
@[simp] theorem State.diagnoseUnknown_rxl (s : State) (bank : Bank) (slot : Fin 16) (dir : Dir) : (s.diagnoseUnknown bank slot dir).rxl = s.rxl := rfl
@[simp] theorem State.diagnoseUnknown_inbox (s : State) (bank : Bank) (slot : Fin 16) (dir : Dir) : (s.diagnoseUnknown bank slot dir).inbox = s.inbox := rfl
@[simp] theorem State.diagnoseUnknown_events (s : State) (bank : Bank) (slot : Fin 16) (dir : Dir) : (s.diagnoseUnknown bank slot dir).events = s.events ++ [.diag .unknownRegister bank slot dir] := rfl
@[simp] theorem State.diagnoseUnknown_replies (s : State) (bank : Bank) (slot : Fin 16) (dir : Dir) : (s.diagnoseUnknown bank slot dir).replies = s.replies := rfl

@[simp] theorem State.clearTx_mdioCtrl (s : State) : (s.clearTx).mdioCtrl = s.mdioCtrl := rfl
@[simp] theorem State.clearTx_mdioData (s : State) : (s.clearTx).mdioData = s.mdioData := rfl
@[simp] theorem State.clearTx_hostMask (s : State) : (s.clearTx).hostMask = s.hostMask := rfl
@[simp] theorem State.clearTx_hostFlags (s : State) : (s.clearTx).hostFlags = s.hostFlags := rfl
@[simp] theorem State.clearTx_vlanMask (s : State) : (s.clearTx).vlanMask = s.vlanMask := rfl
@[simp] theorem State.clearTx_fifoStatus (s : State) : (s.clearTx).fifoStatus = s.fifoStatus := rfl
@[simp] theorem State.clearTx_fifoEnable (s : State) : (s.clearTx).fifoEnable = s.fifoEnable := rfl
@[simp] theorem State.clearTx_shadow2 (s : State) : (s.clearTx).shadow2 = s.shadow2 := rfl
@[simp] theorem State.clearTx_shadow4 (s : State) : (s.clearTx).shadow4 = s.shadow4 := rfl
@[simp] theorem State.clearTx_shadow5 (s : State) : (s.clearTx).shadow5 = s.shadow5 := rfl
@[simp] theorem State.clearTx_shadow6 (s : State) : (s.clearTx).shadow6 = s.shadow6 := rfl
@[simp] theorem State.clearTx_txd (s : State) : (s.clearTx).txd = s.txd.clear := rfl
@[simp] theorem State.clearTx_txl (s : State) : (s.clearTx).txl = s.txl.clear := rfl
@[simp] theorem State.clearTx_rxd (s : State) : (s.clearTx).rxd = s.rxd := rfl
@[simp] theorem State.clearTx_rxl (s : State) : (s.clearTx).rxl = s.rxl := rfl
@[simp] theorem State.clearTx_inbox (s : State) : (s.clearTx).inbox = s.inbox := rfl
@[simp] theorem State.clearTx_events (s : State) : (s.clearTx).events = s.events := rfl
@[simp] theorem State.clearTx_replies (s : State) : (s.clearTx).replies = s.replies := rfl

@[simp] theorem State.clearRx_mdioCtrl (s : State) : (s.clearRx).mdioCtrl = s.mdioCtrl := rfl
@[simp] theorem State.clearRx_mdioData (s : State) : (s.clearRx).mdioData = s.mdioData := rfl
@[simp] theorem State.clearRx_hostMask (s : State) : (s.clearRx).hostMask = s.hostMask := rfl
@[simp] theorem State.clearRx_hostFlags (s : State) : (s.clearRx).hostFlags = s.hostFlags := rfl
@[simp] theorem State.clearRx_vlanMask (s : State) : (s.clearRx).vlanMask = s.vlanMask := rfl
@[simp] theorem State.clearRx_fifoStatus (s : State) : (s.clearRx).fifoStatus = s.fifoStatus := rfl
@[simp] theorem State.clearRx_fifoEnable (s : State) : (s.clearRx).fifoEnable = s.fifoEnable := rfl
@[simp] theorem State.clearRx_shadow2 (s : State) : (s.clearRx).shadow2 = s.shadow2 := rfl
@[simp] theorem State.clearRx_shadow4 (s : State) : (s.clearRx).shadow4 = s.shadow4 := rfl
@[simp] theorem State.clearRx_shadow5 (s : State) : (s.clearRx).shadow5 = s.shadow5 := rfl
@[simp] theorem State.clearRx_shadow6 (s : State) : (s.clearRx).shadow6 = s.shadow6 := rfl
@[simp] theorem State.clearRx_txd (s : State) : (s.clearRx).txd = s.txd := rfl
@[simp] theorem State.clearRx_txl (s : State) : (s.clearRx).txl = s.txl := rfl
@[simp] theorem State.clearRx_rxd (s : State) : (s.clearRx).rxd = s.rxd.clear := rfl
@[simp] theorem State.clearRx_rxl (s : State) : (s.clearRx).rxl = s.rxl.clear := rfl
@[simp] theorem State.clearRx_inbox (s : State) : (s.clearRx).inbox = s.inbox := rfl
@[simp] theorem State.clearRx_events (s : State) : (s.clearRx).events = s.events := rfl
@[simp] theorem State.clearRx_replies (s : State) : (s.clearRx).replies = s.replies := rfl

@[simp] theorem State.present_mdioCtrl (s : State) (r : Request) : (s.present r).mdioCtrl = s.mdioCtrl := rfl
@[simp] theorem State.present_mdioData (s : State) (r : Request) : (s.present r).mdioData = s.mdioData := rfl
@[simp] theorem State.present_hostMask (s : State) (r : Request) : (s.present r).hostMask = s.hostMask := rfl
@[simp] theorem State.present_hostFlags (s : State) (r : Request) : (s.present r).hostFlags = s.hostFlags := rfl
@[simp] theorem State.present_vlanMask (s : State) (r : Request) : (s.present r).vlanMask = s.vlanMask := rfl
@[simp] theorem State.present_fifoStatus (s : State) (r : Request) : (s.present r).fifoStatus = s.fifoStatus := rfl
@[simp] theorem State.present_fifoEnable (s : State) (r : Request) : (s.present r).fifoEnable = s.fifoEnable := rfl
@[simp] theorem State.present_shadow2 (s : State) (r : Request) : (s.present r).shadow2 = s.shadow2 := rfl
@[simp] theorem State.present_shadow4 (s : State) (r : Request) : (s.present r).shadow4 = s.shadow4 := rfl
@[simp] theorem State.present_shadow5 (s : State) (r : Request) : (s.present r).shadow5 = s.shadow5 := rfl
@[simp] theorem State.present_shadow6 (s : State) (r : Request) : (s.present r).shadow6 = s.shadow6 := rfl
@[simp] theorem State.present_txd (s : State) (r : Request) : (s.present r).txd = s.txd := rfl
@[simp] theorem State.present_txl (s : State) (r : Request) : (s.present r).txl = s.txl := rfl
@[simp] theorem State.present_rxd (s : State) (r : Request) : (s.present r).rxd = s.rxd := rfl
@[simp] theorem State.present_rxl (s : State) (r : Request) : (s.present r).rxl = s.rxl := rfl
@[simp] theorem State.present_inbox (s : State) (r : Request) : (s.present r).inbox = r :: s.inbox := rfl
@[simp] theorem State.present_events (s : State) (r : Request) : (s.present r).events = s.events := rfl
@[simp] theorem State.present_replies (s : State) (r : Request) : (s.present r).replies = s.replies := rfl

@[simp] theorem completeRead_next (w : Word) (s : State) : completeRead w s = .next (s.reply (.value w)) := rfl

@[simp] theorem completeWrite_next (s : State) : completeWrite s = .next (s.reply .nothing) := rfl

@[simp] theorem readUnknown_next (bank : Bank) (slot : Fin 16) (s : State) :
    readUnknown bank slot s = .next ((s.diagnoseUnknown bank slot .rd).reply (.value 0)) := rfl

@[simp] theorem writeUnknown_next (bank : Bank) (slot : Fin 16) (v : Word) (s : State) :
    writeUnknown bank slot v s = .next ((s.diagnoseUnknown bank slot .wr).reply .nothing) := rfl

@[simp] theorem writeDiscarded_next (v : Word) (s : State) : writeDiscarded v s = .next (s.reply .nothing) := rfl

/-- Everything the MDIO Shim can do: nothing depends on the PHY address or register. -/
theorem mdioShim_eq (readRequest : Bool) (phy reg : BitVec 5) (s : State) :
    mdioShim readRequest phy reg s =
      { s with
        mdioData := if readRequest then mdioPlaceholder else s.mdioData
        hostFlags := s.hostFlags ||| mdioDone } := rfl

/-- Everything a pop of the RX data ring can do. -/
theorem popRxData_cases (p : Config.Params) (s : State) :
    (s.rxd.isEmpty = true ∧ popRxData p s = s.raise (mRpure p)) ∨
      (s.rxd.isEmpty = false ∧
        popRxData p s = { s with rxd := { s.rxd with popIdx := s.rxd.position (s.rxd.popIdx.val + 1) } }) := by
  cases h : s.rxd.isEmpty <;> simp [popRxData, RingBuffer.pop, h]

/-- Everything a pop of the RX length ring can do. -/
theorem popRxLength_cases (p : Config.Params) (s : State) :
    (s.rxl.isEmpty = true ∧ popRxLength p s = s.raise (mRpure p)) ∨
      (s.rxl.isEmpty = false ∧
        popRxLength p s = { s with rxl := { s.rxl with popIdx := s.rxl.position (s.rxl.popIdx.val + 1) } }) := by
  cases h : s.rxl.isEmpty <;> simp [popRxLength, RingBuffer.pop, h]

theorem shadowAfter_of_untracked (p : Config.Params) (old v : Word) (h : p.shadowTracksWrites = false) :
    shadowAfter p old v = old := by
  simp [shadowAfter, h]

end Sys2Proof.Machine
end

