-- ==== Sys2Proof/Laws/Step.lean ====
section
/-! SUPPORT. Everything one step can do, said once. -/

namespace Sys2Proof.Machine

/-- A step is idle, or refuses the oldest request, or runs the instruction it decodes to. -/
theorem step_cases (s : State) :
    (s.inbox = [] ∧ step s = .next s) ∨
      (∃ r rest why, s.inbox = r :: rest ∧ decodeRequest cfg.base r = .error why ∧
        step s = .refused (refusalOf why)) ∨
      (∃ r rest i, s.inbox = r :: rest ∧ decodeRequest cfg.base r = .ok i ∧
        step s = exec i { s with inbox := rest }) := by
  cases hi : s.inbox with
  | nil => exact .inl ⟨rfl, by simp [step, fetch, hi]⟩
  | cons r rest =>
    cases hd : decodeRequest cfg.base r with
    | error why => exact .inr (.inl ⟨r, rest, why, rfl, hd, by simp [step, fetch, hi, hd]⟩)
    | ok i => exact .inr (.inr ⟨r, rest, i, rfl, hd, by simp [step, fetch, hi, hd]⟩)

/-- A run of `n + 1` steps ends in `t` exactly when its first step has a next state whose run of `n` does. -/
theorem run_succ_eq_next (M : Host.Core) (n : Nat) (s t : M.State) :
    M.run (n + 1) s = .next t ↔ ∃ u, M.step s = .next u ∧ M.run n u = .next t := by
  rw [Host.Core.run]
  cases h : M.step s <;> simp

/-- The same of this machine. -/
theorem core_run_succ_eq_next (n : Nat) (s t : State) :
    Sys2Proof.core.run (n + 1) s = .next t ↔ ∃ u, step s = .next u ∧ Sys2Proof.core.run n u = .next t :=
  run_succ_eq_next Sys2Proof.core n s t

/-- Placing a table word changes nothing but the inbox. -/
theorem withFetchWord_eq (s : State) (nbits w : Nat) :
    s.withFetchWord nbits w = { s with inbox := .operation (tableOperation nbits w) :: s.inbox } := rfl

end Sys2Proof.Machine
end

