-- ==== Sys2Proof/Laws/TxPipeline.lean ====
section
/-! SUPPORT. What the Transmit Pipeline can do to a state, said once: it moves the two TX pop indices, adds
frames at the end of the events, and sets no status bit but `M_TC`. -/

namespace Sys2Proof.Machine

/-- The pipeline's loop moves the TX pop indices and appends frames; every other field stays. -/
theorem drainFrames_frame (p : Config.Params) (fuel : Nat) (s : State) :
    ∃ (a : Fin 16) (b : Fin 512) (frames : List (List Byte)),
      drainFrames p fuel s =
        { s with
          txl := { s.txl with popIdx := a }
          txd := { s.txd with popIdx := b }
          events := s.events ++ frames.map Event.send } := by
  induction fuel generalizing s with
  | zero => exact ⟨s.txl.popIdx, s.txd.popIdx, [], by simp [drainFrames]⟩
  | succ n ih =>
    by_cases h : headReady s = true
    · obtain ⟨a, b, frames, he⟩ := ih (sendHead p s)
      refine ⟨a, b, assembleFrame p.frameByteOrder (s.txd.take (wordCount s.txl.peek)).words s.txl.peek :: frames, ?_⟩
      rw [drainFrames, if_pos h, he]
      have hne : s.txl.isEmpty = false := by
        simp only [headReady, Bool.and_eq_true, Bool.not_eq_true'] at h
        exact h.1
      simp [sendHead, RingBuffer.pop_ring_of_nonempty _ hne]
    · exact ⟨s.txl.popIdx, s.txd.popIdx, [], by simp [drainFrames, h]⟩

/-- The whole pipeline: as its loop, and then `M_TC` set if the length queue is empty. -/
theorem txPipeline_frame (p : Config.Params) (s : State) :
    ∃ (a : Fin 16) (b : Fin 512) (frames : List (List Byte)),
      txPipeline p s =
        { s with
          txl := { s.txl with popIdx := a }
          txd := { s.txd with popIdx := b }
          events := s.events ++ frames.map Event.send
          fifoStatus := if s.txl.pushIdx = a then s.fifoStatus ||| mTc p else s.fifoStatus } := by
  obtain ⟨a, b, frames, he⟩ := drainFrames_frame p s.txl.occ s
  refine ⟨a, b, frames, ?_⟩
  simp only [txPipeline, he, RingBuffer.isEmpty, State.raise]
  by_cases h : s.txl.pushIdx = a <;> simp [h]

/-- Everything a data write can do: overflow, or one word pushed. -/
theorem writeTxData_cases (p : Config.Params) (v : Word) (s : State) :
    ((s.txl.isFull = true ∨ s.txd.isFull = true) ∧ writeTxData p v s = s.raise (mTpoe p)) ∨
      (s.txl.isFull = false ∧ s.txd.isFull = false ∧ writeTxData p v s = { s with txd := s.txd.push v }) := by
  unfold writeTxData
  cases s.txl.isFull <;> cases s.txd.isFull <;> simp

/-- Everything a length write can do: overflow, or the record pushed and one pipeline run; and the shadow
word either way. -/
theorem writeTxLength_cases (p : Config.Params) (v : Word) (s : State) :
    (s.txl.isFull = true ∧ writeTxLength p v s =
        { s with fifoStatus := s.fifoStatus ||| mTpoe p, shadow5 := shadowAfter p s.shadow5 v }) ∨
      (s.txl.isFull = false ∧ ∃ (a : Fin 16) (b : Fin 512) (frames : List (List Byte)), writeTxLength p v s =
        { s with
          txl := { s.txl.push v with popIdx := a }
          txd := { s.txd with popIdx := b }
          events := s.events ++ frames.map Event.send
          fifoStatus := if (s.txl.push v).pushIdx = a then s.fifoStatus ||| mTc p else s.fifoStatus
          shadow5 := shadowAfter p s.shadow5 v }) := by
  cases h : s.txl.isFull
  · obtain ⟨a, b, frames, he⟩ := txPipeline_frame p { s with txl := s.txl.push v }
    refine .inr ⟨rfl, a, b, frames, ?_⟩
    simp only [writeTxLength, queueTxLength, h, he]
    rfl
  · exact .inl ⟨rfl, by simp [writeTxLength, queueTxLength, h, State.raise]⟩

end Sys2Proof.Machine
end

