-- ==== Sys2Proof/Machine/AsmText.lean ====
section
/-! DEFINITION. The text of an assembler line (R54, R55): its tokens, its numbers (R8) and the line they stand
for. Where R54 leaves the spelling open (blanks, brackets round a byte list), log 7 says what is taken. -/

namespace Sys2Proof.Machine

/-- A token of a line. -/
inductive AsmToken where
  | word (chars : List Char)
  | comma
  | openBracket
  | closeBracket
  deriving DecidableEq, Repr

/-- A line as read: what it stands for, and the result written behind `->` on a read (R54). -/
structure SourceLine where
  line : AsmLine
  result : Option Word
  deriving DecidableEq, Repr

/-- The word collected so far, if any. -/
def flushWord (chars : List Char) : List AsmToken := if chars = [] then [] else [.word chars]

/-- The tokens of a line, up to its comment; `pending` is the word being collected. -/
def tokenize (pending chars : List Char) : List AsmToken :=
  match chars with
  | [] => flushWord pending
  | c :: rest =>
    if c = ';' then flushWord pending
    else if c = ' ' ∨ c = '\t' then flushWord pending ++ tokenize [] rest
    else if c = ',' then flushWord pending ++ .comma :: tokenize [] rest
    else if c = '[' then flushWord pending ++ .openBracket :: tokenize [] rest
    else if c = ']' then flushWord pending ++ .closeBracket :: tokenize [] rest
    else tokenize (pending ++ [c]) rest

/-- The value of a digit, hexadecimal digits of either case included. -/
def digitValue (c : Char) : Option Nat :=
  if 48 ≤ c.toNat ∧ c.toNat ≤ 57 then some (c.toNat - 48)
  else if 65 ≤ c.toNat ∧ c.toNat ≤ 70 then some (c.toNat - 55)
  else if 97 ≤ c.toNat ∧ c.toNat ≤ 102 then some (c.toNat - 87)
  else none

/-- The number some digits give behind `value`, in a base. -/
def digitsValue (base value : Nat) (chars : List Char) : Option Nat :=
  match chars with
  | [] => some value
  | c :: rest =>
    match digitValue c with
    | none => none
    | some d => if d < base then digitsValue base (base * value + d) rest else none

/-- A number: hexadecimal with `0x`, decimal otherwise (R8). -/
def parseNumber (chars : List Char) : Option Nat :=
  match chars with
  | [] => none
  | '0' :: 'x' :: digit :: rest => digitsValue 16 0 (digit :: rest)
  | digit :: rest => digitsValue 10 0 (digit :: rest)

/-- A number that fits `width` bits. -/
def parseBits (width : Nat) (chars : List Char) : Option (BitVec width) :=
  (parseNumber chars).bind fun n => if n < 2 ^ width then some (BitVec.ofNat width n) else none

/-- Every word read by `f`, or nothing if one is not. -/
def parseAll {α : Type} (f : List Char → Option α) (words : List (List Char)) : Option (List α) :=
  match words with
  | [] => some []
  | w :: rest =>
    match f w, parseAll f rest with
    | some x, some xs => some (x :: xs)
    | _, _ => none

/-- A bank, in either case (R54). -/
def parseBank (chars : List Char) : Option Bank :=
  if chars.map Char.toLower = "host".toList then some .host
  else if chars.map Char.toLower = "mac".toList then some .mac
  else if chars.map Char.toLower = "fifo".toList then some .fifo
  else none

/-- The words of a comma-separated list of at least one. -/
def commaWords (tokens : List AsmToken) : Option (List (List Char)) :=
  match tokens with
  | [.word w] => some [w]
  | .word w :: .comma :: rest => (commaWords rest).map (w :: ·)
  | _ => none

/-- The operands of a line: none, or a comma-separated list. -/
def parseOperands (tokens : List AsmToken) : Option (List (List Char)) :=
  match tokens with
  | [] => some []
  | t :: rest => commaWords (t :: rest)

/-- The bytes of a list in brackets. -/
def parseByteList (tokens : List AsmToken) : Option (List Byte) :=
  match tokens with
  | .openBracket :: rest =>
    if rest.getLast? = some .closeBracket then (parseOperands rest.dropLast).bind (parseAll (parseBits 8)) else none
  | _ => none

/-- `RD <bank>.<register>` or `RD <off>` (R54). -/
def parseRead (target : List Char) : Option AsmLine :=
  if '.' ∈ target then
    (parseBank (target.takeWhile (· != '.'))).map fun bank =>
      .rd bank (String.ofList ((target.dropWhile (· != '.')).drop 1))
  else (parseBits 14 target).map .rdRaw

/-- `WR <bank>.<register>, <value>` or `WR <off>, <value>` (R54). -/
def parseWrite (target : List Char) (v : Word) : Option AsmLine :=
  if '.' ∈ target then
    (parseBank (target.takeWhile (· != '.'))).map fun bank =>
      .wr bank (String.ofList ((target.dropWhile (· != '.')).drop 1)) v
  else (parseBits 14 target).map (.wrRaw · v)

/-- The line a mnemonic and its operands stand for (R54, R55). -/
def parseMnemonic (mnemonic : List Char) (operands : List (List Char)) : Option AsmLine :=
  if mnemonic = "RD".toList then
    match operands with
    | [target] => parseRead target
    | _ => none
  else if mnemonic = "WR".toList then
    match operands with
    | [target, v] => (parseBits 32 v).bind (parseWrite target)
    | _ => none
  else if mnemonic = "TXRESET".toList then if operands = [] then some .txReset else none
  else if mnemonic = "RXRESET".toList then if operands = [] then some .rxReset else none
  else if mnemonic = "FIFOCLR".toList then
    match operands with
    | [m] => (parseBits 32 m).map .fifoClr
    | _ => none
  else if mnemonic = "HOSTCLR".toList then
    match operands with
    | [m] => (parseBits 32 m).map .hostClr
    | _ => none
  else if mnemonic = "MDIORD".toList then
    match operands with
    | [phy, reg] => (parseBits 5 phy).bind fun p => (parseBits 5 reg).map (.mdioRd p)
    | _ => none
  else if mnemonic = "MDIOWR".toList then
    match operands with
    | [phy, reg, d] =>
      (parseBits 5 phy).bind fun p => (parseBits 5 reg).bind fun r => (parseBits 32 d).map (.mdioWr p r)
    | _ => none
  else if mnemonic = "SENDFRAME".toList then
    match parseAll (parseBits 32) operands with
    | some (len :: words) => some (.sendFrame len words)
    | _ => none
  else none

/-- A port operation (R54). -/
def parsePort (tokens : List AsmToken) : Option AsmLine :=
  match tokens with
  | .word name :: rest =>
    if name = "RX_CAN_ACCEPT".toList ∧ rest = [] then some .rxCanAccept
    else if name = "RX_DELIVER".toList then (parseByteList rest).map .rxDeliver
    else none
  | _ => none

/-- The line its tokens stand for. -/
def parseTokens (tokens : List AsmToken) : Option AsmLine :=
  match tokens with
  | .word mnemonic :: rest =>
    if mnemonic = "PORT".toList then parsePort rest else (parseOperands rest).bind (parseMnemonic mnemonic)
  | _ => none

/-- The line is a bus read, so a result may be written behind it (R54). -/
def AsmLine.isRead (line : AsmLine) : Bool :=
  match line with
  | .rd _ _ => true
  | .rdRaw _ => true
  | _ => false

/-- A line of text, with the result written behind `->` if there is one (R54). -/
def parseLine (text : String) : Option SourceLine :=
  let tokens := tokenize [] text.toList
  (parseTokens (tokens.takeWhile (· != .word "->".toList))).bind fun line =>
    match tokens.dropWhile (· != .word "->".toList) with
    | [] => some ⟨line, none⟩
    | [_, .word w] => if line.isRead then (parseBits 32 w).map fun v => ⟨line, some v⟩ else none
    | _ => none

/-- The accesses a line of text stands for, in order. -/
def assembleLine (text : String) : Option (List Operation) := (parseLine text).bind fun s => s.line.expand

end Sys2Proof.Machine
end

