-- ==== Sys2Proof/Tests/Slice0.lean ====
section
/-! SUPPORT. The spec's own vectors (spec/95_test_vectors.md), one step each, on small states; an ill-formed
operation for each check; and for every obligation with hypotheses a state and operands that meet them. -/

namespace Sys2Proof.Tests

open Sys2Proof Sys2Proof.Machine

/-- A ring with the given indices whose storage begins with `words` and is 0 after them. -/
def ringOf (N : Nat) (h : 0 < N) (push pop : Nat) (words : List Word) : RingBuffer N where
  mem := ⟨⟨(List.range' 0 N).map fun i => words.getD i 0⟩, by simp⟩
  pushIdx := ⟨push % N, Nat.mod_lt _ h⟩
  popIdx := ⟨pop % N, Nat.mod_lt _ h⟩

/-- A data ring. -/
def dataRing (push pop : Nat) (words : List Word) : RingBuffer 512 := ringOf 512 (by decide) push pop words

/-- A length ring. -/
def lenRing (push pop : Nat) (words : List Word) : RingBuffer 16 := ringOf 16 (by decide) push pop words

/-- The construction state with storage a test can evaluate. -/
def init : State :=
  { State.reset with
    txd := dataRing 0 0 [], txl := lenRing 0 0 [], rxd := dataRing 0 0 [0x11#32], rxl := lenRing 0 0 [0x22#32] }

/-- `init` with the given TX rings. -/
def withTx (txd : RingBuffer 512) (txl : RingBuffer 16) : State := { init with txd := txd, txl := txl }

/-- The state an instruction leaves. -/
def after (i : Instr) (s : State) : State :=
  match exec i s with
  | .next t => t
  | .fault _ => s
  | .refused _ => s

/-- The default configuration of R7, its open contents 0. -/
def p0 : Config.Params := default

/-- The default configuration with LSB_FIRST. -/
def pLsb : Config.Params := { (default : Config.Params) with frameByteOrder := .lsbFirst }

/-- The default configuration with SHADOW_TRACKS_WRITES. -/
def pShadow : Config.Params := { (default : Config.Params) with shadowTracksWrites := true }

/-! Well-formedness: an admitted operation, and one ill-formed operation for each check. -/

theorem test_wf_admitted : (bareOperation 0x203C#16).wellFormed = true := by decide

theorem test_wf_kind : (bareOperation 0xC000#16).kindDefined = false ∧
    (bareOperation 0xC000#16).wellFormed = false := by decide

theorem test_wf_width : (⟨0x2014#16, 2, 0, []⟩ : Operation).widthAdmitted = false ∧
    (⟨0x2014#16, 2, 0, []⟩ : Operation).wellFormed = false := by decide

theorem test_wf_bank : (bareOperation 0x3000#16).bankExists = false ∧
    (bareOperation 0x3000#16).wellFormed = false := by decide

theorem test_wf_window : (bareOperation 0x2040#16).insideWindow = false ∧
    (bareOperation 0x2040#16).wellFormed = false := by decide

theorem test_wf_aligned : (bareOperation 0x2016#16).aligned = false ∧
    (bareOperation 0x2016#16).wellFormed = false := by decide

theorem test_wf_port : (bareOperation 0x8002#16).portDefined = false ∧
    (bareOperation 0x8002#16).wellFormed = false := by decide

/-! Decoding: words written out bit by bit from R46 (kind, bank, win, slot, align). -/

theorem test_decode_rd_host : decode (bareOperation 0b00_00_000000_0011_00#16) = .ok .rdHostIrqFlags := by decide

theorem test_decode_rd_mac : decode (bareOperation 0b00_01_000000_0100_00#16) = .ok .rdMacSpeedConfig := by decide

theorem test_decode_rd_fifo : decode (bareOperation 0b00_10_000000_1001_00#16) = .ok .rdFifoRxLength := by decide

theorem test_decode_wr_host :
    decode (writeOperation 0b01_00_000000_0000_00#16 0x421#32) = .ok (.wrHostMdioCtrl 0x421#32) := by decide

theorem test_decode_wr_mac :
    decode (writeOperation 0b01_01_000000_1111_00#16 1#32) = .ok (.wrMacUnk15 1#32) := by decide

theorem test_decode_wr_fifo :
    decode (writeOperation 0b01_10_000000_0101_00#16 4#32) = .ok (.wrFifoTxLength 4#32) := by decide

theorem test_decode_port :
    decode ⟨0b10_00000000000000#16, 0, 0, []⟩ = .ok .portRxCanAccept ∧
      decode ⟨0b10_00000000000001#16, 0, 0, [0xDE#8, 0xAD#8]⟩ = .ok (.portRxDeliver [0xDE#8, 0xAD#8]) := by decide

theorem test_decode_last_of_each_check :
    decode (bareOperation 0x2FFC#16) = .error .outsideWindow ∧ decode (bareOperation 0x203F#16) = .error .misalignedAccess ∧
      decode (bareOperation 0xBFFF#16) = .error .reservedPortOp ∧ decode ⟨0x3001#16, 1, 0, []⟩ = .error .narrowOrWideAccess := by
  decide

theorem test_table_word : decodeTableWord 16 0x6014 = some (.wrFifoTxLength 0) ∧
    decodeTableWord 16 0x8001 = some (.portRxDeliver []) ∧ decodeTableWord 16 0xC000 = none := by decide

theorem test_first_step_runs_table_word :
    (match step (State.reset.withFetchWord 16 0x0008) with | .next t => t.replies | _ => []) = [.value 0] := by decide

/-! Ring buffer vectors RB1 to RB13. -/

theorem test_rb3_wrapped_full : (lenRing 4 5 []).isFull = true ∧ (lenRing 4 5 []).occ = 15 := by decide

theorem test_rb4_wrapped_occupancy : (dataRing 1 510 []).occ = 3 ∧ (dataRing 1 510 []).isFull = false := by decide

theorem test_rb5_push_wraps : ((dataRing 511 3 []).push 0x1234#32).pushIdx = 0 ∧
    ((lenRing 15 3 []).push 0x1234#32).mem[15] = 0x1234#32 := by decide

theorem test_rb7_pop_empty : (lenRing 15 15 (List.replicate 15 0 ++ [9])).pop.word = 9 ∧
    (lenRing 15 15 (List.replicate 15 0 ++ [9])).pop.wasEmpty = true ∧
    (lenRing 15 15 (List.replicate 15 0 ++ [9])).pop.ring.popIdx = 15 := by decide

theorem test_rb8_pop_wraps : (lenRing 0 15 (List.replicate 15 0 ++ [4])).pop.word = 4 ∧
    (lenRing 0 15 (List.replicate 15 0 ++ [4])).pop.ring.popIdx = 0 ∧
    (lenRing 0 15 (List.replicate 15 0 ++ [4])).pop.ring.isEmpty = true := by decide

theorem test_rb10_take_wraps : ((((lenRing 14 14 []).push 0xA#32).push 0xB#32).push 0xC#32 |>.take 3).words = [0xA, 0xB, 0xC] ∧
    ((((lenRing 14 14 []).push 0xA#32).push 0xB#32).push 0xC#32 |>.take 3).ring.popIdx = 1 := by decide

theorem test_rb12_clear : (lenRing 9 4 [1, 2, 3, 4, 5]).clear.isEmpty = true ∧
    (lenRing 9 4 [1, 2, 3, 4, 5]).clear.mem[4] = 5 ∧ (lenRing 9 4 [1, 2, 3, 4, 5]).clear.pop.word = 1 := by decide

/-! Host bank vectors H1 to H17. -/

theorem test_h1_mdio_read_request : (after (.wrHostMdioCtrl 0x421#32) init).mdioCtrl = 0x421#11 ∧
    (after (.wrHostMdioCtrl 0x421#32) init).mdioData = 0xFFFF#16 ∧
    (after (.wrHostMdioCtrl 0x421#32) init).hostFlags = 1#2 := by decide

theorem test_h3_mdio_ctrl_drops_high_bits :
    (after .rdHostMdioCtrl (after (.wrHostMdioCtrl 0xFFFFFC21#32) init)).replies = [.nothing, .value 0x421#32] := by decide

theorem test_h4_mdio_write_request_keeps_data :
    (after (.wrHostMdioCtrl 0x21#32) { init with mdioData := 0x1234#16 }).mdioData = 0x1234#16 ∧
      (after (.wrHostMdioCtrl 0x21#32) { init with mdioData := 0x1234#16 }).hostFlags = 1#2 := by decide

theorem test_h6_mdio_data_low_half :
    (after .rdHostMdioData (after (.wrHostMdioData 0xDEADBEEF#32) init)).replies = [.nothing, .value 0xBEEF#32] := by decide

theorem test_h7_irq_mask_two_bits :
    (after .rdHostIrqMask (after (.wrHostIrqMask 0xFFFFFFFF#32) init)).replies = [.nothing, .value 3#32] := by decide

theorem test_h9_masking_deasserts : irqHost { init with hostFlags := 1, hostMask := 1 } = true ∧
    irqHost (after (.wrHostIrqMask 2) { init with hostFlags := 1, hostMask := 1 }) = false := by decide

theorem test_h10_clear_needs_its_bit :
    (after (.wrHostIrqFlags 0xFFFFFFFE#32) { init with hostFlags := 1 }).hostFlags = 1 ∧
      (after (.wrHostIrqFlags 1) { init with hostFlags := 1 }).hostFlags = 0 := by decide

theorem test_h15_undefined_slot :
    (after .rdHostUnk7 (after (.wrHostUnk7 0xFFFFFFFF#32) init)).events =
        [.diag .unknownRegister .host 7 .wr, .diag .unknownRegister .host 7 .rd] ∧
      (after .rdHostUnk7 (after (.wrHostUnk7 0xFFFFFFFF#32) init)).replies = [.nothing, .value 0] := by decide

theorem test_h17_reading_flags_keeps_them : (after .rdHostIrqFlags { init with hostFlags := 1 }).hostFlags = 1 := by decide

/-! MAC bank vectors M1, M3 and M4. -/

theorem test_m1_config_reads_zero :
    (after .rdMacTxConfig (after (.wrMacTxConfig 0x12345678#32) init)).replies = [.nothing, .value 0] ∧
      (after .rdMacTxConfig (after (.wrMacTxConfig 0x12345678#32) init)).events = [] := by decide

theorem test_m3_undefined_slot : (after .rdMacUnk0 init).events = [.diag .unknownRegister .mac 0 .rd] ∧
    (after (.wrMacUnk15 1) init).events = [.diag .unknownRegister .mac 15 .wr] := by decide

/-! FIFO bank vectors F1 to F29. -/

theorem test_f1_vacancy_at_construction : (after .rdFifoTxVacancy init).replies = [.value 0x1FF#32] := by decide

theorem test_f2_push : (writeTxData p0 0xAABBCCDD#32 init).txd.mem[0] = 0xAABBCCDD#32 ∧
    txVacancy (writeTxData p0 0xAABBCCDD#32 init) = 510 := by decide

theorem test_f3_tx_data_reads_no_ring :
    (after .rdFifoTxData (withTx (dataRing 1 0 [0xAABBCCDD#32]) (lenRing 0 0 []))).replies = [.value 0] := by decide

theorem test_f4_data_ring_full :
    (writeTxData p0 1 (withTx (dataRing 511 0 []) (lenRing 0 0 []))).fifoStatus = 0x10000000#32 ∧
      (writeTxData p0 1 (withTx (dataRing 511 0 []) (lenRing 0 0 []))).txd.pushIdx = 511 := by decide

theorem test_f5_length_ring_full_raises_line :
    irqFifo (writeTxData p0 1 { withTx (dataRing 0 0 []) (lenRing 15 0 []) with fifoEnable := 0x10000000#32 }) = true ∧
      (writeTxData p0 1 (withTx (dataRing 0 0 []) (lenRing 15 0 []))).txd.isEmpty = true := by decide

theorem test_f7_vacancy : txVacancy (withTx (dataRing 3 0 []) (lenRing 0 0 [])) = 508 ∧
    txVacancy (withTx (dataRing 511 0 []) (lenRing 0 0 [])) = 0 ∧
    txVacancy (withTx (dataRing 0 0 []) (lenRing 15 0 [])) = 0 := by decide

theorem test_f10_tx_reset : (after (.wrFifoTxReset 0xA5#32) (withTx (dataRing 3 1 [7, 8, 9]) (lenRing 2 2 []))).txd.pushIdx = 0 ∧
    (after (.wrFifoTxReset 0xA5#32) (withTx (dataRing 3 1 [7, 8, 9]) (lenRing 2 2 []))).txl.popIdx = 0 ∧
    (after (.wrFifoTxReset 0xA5#32) (withTx (dataRing 3 1 [7, 8, 9]) (lenRing 2 2 []))).txd.mem[2] = 9 := by decide

theorem test_f11_tx_reset_compares_whole_word :
    (after (.wrFifoTxReset 0x1A5#32) (withTx (dataRing 3 1 []) (lenRing 2 2 []))).txd.popIdx = 1 ∧
      (after (.wrFifoTxReset 0x1A5#32) (withTx (dataRing 3 1 []) (lenRing 2 2 []))).events = [] := by decide

theorem test_f13_shadow : shadowAfter p0 0 0xA5#32 = 0 ∧ shadowAfter pShadow 0 0xA5#32 = 0xA5#32 := by decide

theorem test_f15_write_one_to_clear : w1c 0x18000000#32 (fifoBitsOperand p0 0x08000000#32) = 0x10000000#32 ∧
    w1c 0x08000000#32 (fifoBitsOperand p0 0x03FFFFFF#32) = 0x08000000#32 := by decide

theorem test_f18_enable_inside_field : fifoBitsOperand p0 0xFFFFFFFF#32 = 0xFC000000#32 := by decide

theorem test_f20_rx_data_underflow : (after .rdFifoRxData init).replies = [.value 0x11#32] ∧
    (popRxData p0 init).fifoStatus = 0x80000000#32 ∧ (popRxData p0 init).rxd.popIdx = 0 := by decide

theorem test_f21_rx_length_underflow : (after .rdFifoRxLength init).replies = [.value 0x22#32] ∧
    (popRxLength p0 init).fifoStatus = 0x80000000#32 := by decide

theorem test_q5_rx_pop_nonempty : (popRxData p0 { init with rxd := dataRing 2 1 [0, 7] }).rxd.popIdx = 2 ∧
    (popRxData p0 { init with rxd := dataRing 2 1 [0, 7] }).fifoStatus = 0 := by decide

theorem test_f22_rx_occupancy : (after .rdFifoRxOccupancy (after (.wrFifoRxOccupancy 5) init)).replies =
    [.nothing, .value 0] := by decide

theorem test_f25_rx_reset_other_value :
    (after (.wrFifoRxReset 0xA4#32) { init with rxd := dataRing 3 1 [] }).rxd.popIdx = 1 ∧
      (after (.wrFifoRxReset 0xA5#32) { init with rxd := dataRing 3 1 [] }).rxd.popIdx = 0 := by decide

theorem test_f28_undefined_slot : (after (.wrFifoUnk15 0xA5#32) (withTx (dataRing 3 1 []) (lenRing 0 0 []))).txd.pushIdx = 3 ∧
    (after (.wrFifoUnk15 0xA5#32) init).events = [.diag .unknownRegister .fifo 15 .wr] := by decide

/-! Transmit Pipeline vectors S1 and T1 to T11, and step 5 of programs P4 and P6. -/

theorem test_s1_one_frame :
    (writeTxLength p0 4 (withTx (dataRing 1 0 [0xAABBCCDD#32]) (lenRing 0 0 []))).events =
        [.send [0xAA#8, 0xBB#8, 0xCC#8, 0xDD#8]] ∧
      (writeTxLength p0 4 (withTx (dataRing 1 0 [0xAABBCCDD#32]) (lenRing 0 0 []))).fifoStatus = 0x08000000#32 := by decide

theorem test_t1_partial_last_word :
    (writeTxLength p0 5 (withTx (dataRing 3 0 [0x01020304#32, 0x05060708#32, 0x090A0B0C#32]) (lenRing 0 0 []))).events =
        [.send [1, 2, 3, 4, 5]] ∧
      (writeTxLength p0 5 (withTx (dataRing 3 0 [0x01020304#32, 0x05060708#32, 0x090A0B0C#32]) (lenRing 0 0 []))).txd.popIdx =
        2 := by decide

theorem test_t2_lsb_first :
    (writeTxLength pLsb 5 (withTx (dataRing 2 0 [0x01020304#32, 0x05060708#32]) (lenRing 0 0 []))).events =
      [.send [4, 3, 2, 1, 8]] := by decide

theorem test_t3_empty_frame : (writeTxLength p0 0 init).events = [.send []] ∧
    (writeTxLength p0 0 init).fifoStatus = 0x08000000#32 := by decide

theorem test_t4_stall : (writeTxLength p0 8 init).events = [] ∧ (writeTxLength p0 8 init).fifoStatus = 0 ∧
    (writeTxLength p0 8 init).txl.contents = [8] := by decide

theorem test_t5_stalled_record_goes_first :
    (writeTxLength p0 1 (withTx (dataRing 2 0 [0x01020304#32, 0x05060708#32]) (lenRing 1 0 [8]))).events =
        [.send [1, 2, 3, 4, 5, 6, 7, 8]] ∧
      (writeTxLength p0 1 (withTx (dataRing 2 0 [0x01020304#32, 0x05060708#32]) (lenRing 1 0 [8]))).txl.contents = [1] ∧
      (writeTxLength p0 1 (withTx (dataRing 2 0 [0x01020304#32, 0x05060708#32]) (lenRing 1 0 [8]))).fifoStatus = 0 := by decide

theorem test_t10_word_count_does_not_wrap : wordCount 0xFFFFFFFF#32 = 0x40000000 ∧
    (writeTxLength p0 0xFFFFFFFF#32 (withTx (dataRing 1 0 [1]) (lenRing 0 0 []))).events = [] := by decide

theorem test_t11_two_frames_in_one_run :
    (writeTxLength p0 8 (withTx (dataRing 4 0 [0x01020304#32, 0x05060708#32, 0x090A0B0C#32, 0x0D0E0F10#32])
        (lenRing 1 0 [6]))).events =
      [.send [1, 2, 3, 4, 5, 6], .send [9, 10, 11, 12, 13, 14, 15, 16]] := by decide

theorem test_s2_overflow : (writeTxLength p0 8 (withTx (dataRing 0 0 []) (lenRing 15 0 []))).fifoStatus = 0x10000000#32 ∧
    (writeTxLength p0 8 (withTx (dataRing 0 0 []) (lenRing 15 0 []))).txl.occ = 15 := by decide

theorem test_f14_shadow_follows_length : (writeTxLength pShadow 8 init).shadow5 = 8 ∧
    (writeTxLength p0 8 init).shadow5 = 0 := by decide

theorem test_p6_step8_frames_in_order :
    (writeTxLength p0 0 (withTx (dataRing 3 2 [0, 0, 0x99AABBCC#32]) (lenRing 2 1 [6, 1]))).events =
      [.send [0x99#8], .send []] := by decide

/-! Interrupt lines IQ2 to IQ5, and the receive port RX1 and RX2. -/

theorem test_iq_host : irqHost { init with hostFlags := 1, hostMask := 1 } = true ∧
    irqHost { init with hostFlags := 1, hostMask := 2 } = false := by decide

theorem test_iq_fifo : irqFifo { init with fifoStatus := mTc p0, fifoEnable := mTpoe p0 } = false ∧
    irqFifo { init with fifoStatus := mTc p0 ||| mTpoe p0, fifoEnable := mTpoe p0 } = true := by decide

theorem test_rx_port : (after .portRxCanAccept init).replies = [.canAccept false] ∧
    (after (.portRxDeliver [1, 2]) init).replies = [.failure] ∧
    (after (.portRxDeliver [1, 2]) init).rxd.isEmpty = true := by decide

/-! Assembler lines, with the descriptors the spec's programs P1, P3 and P5 give beside them. -/

theorem test_asm_write : assembleLine "WR fifo.TX_LENGTH, 4 ; one frame" = some [writeOperation 0x6014#16 4] := by decide

theorem test_asm_read_with_result :
    parseLine "RD host.MDIO_DATA -> 0x0000FFFF" = some ⟨.rd .host "MDIO_DATA", some 0xFFFF#32⟩ := by decide

theorem test_asm_bank_in_either_case : assembleLine "RD FIFO.INT_STATUS" = some [bareOperation 0x2000#16] ∧
    assembleLine "RD 0x2000" = some [bareOperation 0x2000#16] ∧ assembleLine "RD fifo.NO_SUCH" = none := by decide

theorem test_asm_pseudo : assembleLine "MDIORD 1, 1" = some [writeOperation 0x4000#16 0x421#32] ∧
    assembleLine "MDIOWR 0, 0, 0x12345" = some [writeOperation 0x4004#16 0x12345#32, writeOperation 0x4000#16 0] ∧
    assembleLine "TXRESET" = some [writeOperation 0x6008#16 0xA5#32] := by decide

theorem test_asm_sendframe_counts_words :
    assembleLine "SENDFRAME 5, 0x01020304, 0x05060708" =
        some [writeOperation 0x6010#16 0x01020304#32, writeOperation 0x6010#16 0x05060708#32, writeOperation 0x6014#16 5] ∧
      assembleLine "SENDFRAME 5, 0x01020304" = none := by decide

theorem test_asm_port : assembleLine "PORT RX_DELIVER [0xDE, 0xAD]" = some [⟨0x8001#16, 4, 0, [0xDE#8, 0xAD#8]⟩] ∧
    assembleLine "PORT RX_CAN_ACCEPT" = some [bareOperation 0x8000#16] ∧ assembleLine "MDIORD 32, 1" = none := by decide

theorem test_mdiord_control_word : mdioControlWord 0x400#32 1 1 = 0x421#32 := by decide

/-! Witnesses: for each obligation with hypotheses, a state and operands that meet them. -/

/-- A state of the device invariant that is not the construction state: an overflow pending and enabled, an
MDIO transaction done and a record queued that stalls. -/
def busy : State :=
  { State.reset with
    mdioCtrl := 0x421#11
    hostFlags := 1
    hostMask := 3
    fifoStatus := mTpoe cfg
    fifoEnable := cfg.fifoIntField
    txl := State.reset.txl.push 8 }

/-- For every obligation whose hypothesis is the device invariant: the register reads, RX_RESET,
RX_OCCUPANCY, the RX pops, the step's invariance and the deasserting of a line. -/
theorem test_witness_DeviceInv : DeviceInv busy where
  status_bits := by
    show mTpoe cfg &&& ~~~(mTpoe cfg ||| mRpure cfg ||| mTc cfg) = 0
    refine BitVec.eq_of_getLsbD_eq fun k hk => ?_
    simp only [BitVec.getLsbD_and, BitVec.getLsbD_not, BitVec.getLsbD_or, hk, BitVec.ofNat_eq_ofNat, BitVec.getLsbD_zero]
    cases (mTpoe cfg).getLsbD k <;> simp
  enable_bits := by simp [busy]
  host_flag1 := by decide
  shadow4_zero := rfl
  shadows_zero := fun _ => ⟨rfl, rfl, rfl⟩
  vlan_zero := fun _ => rfl
  rxd_constructed := rfl
  rxl_constructed := rfl

/-- An operation as the only request presented. -/
def asked (op : Operation) : State := { busy with inbox := [.operation op] }

theorem test_witness_DecodeInvertsEncode : decode ⟨0x8001#16, 9, 5, [1]⟩ = .ok (.portRxDeliver [1]) := by decide

theorem test_witness_DecodeChecksInOrder :
    0xC000 ≤ (0xC000#16).toNat ∧ (0x7FFF#16).toNat < 0x8000 ∧ (0x3FFC#16).toNat % 0x4000 / 0x1000 = 3 ∧
      0x40 ≤ (0x2040#16).toNat % 0x1000 ∧ (0x203D#16).toNat % 4 ≠ 0 ∧
      decode (bareOperation 0x7FFF#16) = .error .outsideWindow ∧ decode (bareOperation 0xFFFF#16) = .error .reservedKind := by
  decide

theorem test_witness_BusAddressSelectsSlot :
    decodeRequest 0x40000000 (.bus .rd 0x4000203C 4 0) = .ok .rdFifoUnk15 ∧
      decodeRequest 0x40000000 (.bus .wr 0x40000000 4 5) = .ok (.wrHostMdioCtrl 5) ∧
      decodeRequest 0x40000000 (.bus .rd 0x3FFFFFFF 4 0) = .error .outsideWindow ∧
      decodeRequest 0x40000000 (.bus .wr 0x40004000 4 0) = .error .outsideWindow := by decide

theorem test_witness_StepRunsDecodedInstruction :
    (asked (bareOperation 0x201C#16)).inbox = [.operation (bareOperation 0x201C#16)] ∧
      decodeRequest cfg.base (.operation (bareOperation 0x201C#16)) = .ok .rdFifoRxOccupancy ∧ busy.inbox = [] :=
  ⟨rfl, rfl, rfl⟩

theorem test_witness_StepRefusesInadmissibleRequest :
    (∃ r, (asked (bareOperation 0xC000#16)).inbox = [r] ∧ decodeRequest cfg.base r = .error .reservedKind) ∧
      (∃ r, (asked ⟨0x2014#16, 8, 0, []⟩).inbox = [r] ∧ decodeRequest cfg.base r = .error .narrowOrWideAccess) ∧
      (∃ r, (asked (bareOperation 0x2040#16)).inbox = [r] ∧ decodeRequest cfg.base r = .error .outsideWindow) ∧
      (∃ r, (asked (bareOperation 0x2002#16)).inbox = [r] ∧ decodeRequest cfg.base r = .error .misalignedAccess) ∧
      (∃ r, (asked (bareOperation 0x8002#16)).inbox = [r] ∧ decodeRequest cfg.base r = .error .reservedPortOp) :=
  ⟨⟨_, rfl, rfl⟩, ⟨_, rfl, rfl⟩, ⟨_, rfl, rfl⟩, ⟨_, rfl, rfl⟩, ⟨_, rfl, rfl⟩⟩

theorem test_witness_MdioDataWrite : (0x400#32).getLsbD 10 = true := by decide

theorem test_witness_RingTakeIsRepeatedPop : 3 ≤ (dataRing 1 510 []).occ ∧ (dataRing 1 510 []).occ = 3 := by decide

theorem test_witness_RingOccupancyTests : (lenRing 4 5 []).pushIdx.val < (lenRing 4 5 []).popIdx.val ∧
    (lenRing 5 5 []).popIdx.val ≤ (lenRing 5 5 []).pushIdx.val := by decide

theorem test_witness_RingKeepsOrder : (lenRing 14 0 []).isFull = false ∧ (lenRing 0 15 []).isEmpty = false ∧
    (lenRing 3 3 []).isEmpty = true ∧ 15 ≤ (lenRing 15 0 []).occ := by decide

theorem test_witness_FrameAssembly : [0x01020304#32, 0x05060708#32].length = wordCount 5#32 ∧
    ([] : List Word).length = wordCount 0#32 := by decide

theorem test_witness_WordCountIsExactCeiling : (5#32).toNat ≤ 4 * 2 ∧ wordCount 5#32 = 2 := by decide

theorem test_witness_PipelineDrainsQueues :
    (⟨[[1, 2, 3, 4, 5]], ⟨[8], [0x090A0B0C#32]⟩⟩ : Drained) =
      drainQueues p0.frameByteOrder (withTx (dataRing 3 0 [0x01020304#32, 0x05060708#32, 0x090A0B0C#32])
        (lenRing 2 0 [5, 8])).txl.contents (withTx (dataRing 3 0 [0x01020304#32, 0x05060708#32, 0x090A0B0C#32])
        (lenRing 2 0 [5, 8])).txd.contents := by decide

theorem test_witness_LengthWriteFrame : init.txl.isFull = false ∧
    (∃ t, exec (.wrFifoTxLength 0) init = .next t ∧ t.events ≠ init.events) ∧ init.inbox = [] :=
  ⟨by decide, ⟨_, rfl, by
    show init.events ++ [Event.send _] ≠ init.events
    simp⟩, rfl⟩

theorem test_witness_LockStepLengthWriteSendsOneFrame :
    (withTx (dataRing 1 510 []) (lenRing 3 3 [])).txl.isEmpty = true ∧
      (withTx (dataRing 1 510 []) (lenRing 3 3 [])).txd.contents.length = wordCount 9#32 := by decide

/-- `init` with the accesses of a SENDFRAME of two words presented, and one read after them. -/
def frameAsked : State :=
  { init with
    inbox := [.operation (writeOperation 0x6010#16 0x01020304#32), .operation (writeOperation 0x6010#16 0x05060708#32),
      .operation (writeOperation 0x6014#16 5#32), .operation (bareOperation 0x2000#16)] }

theorem test_witness_SendFrameReachesSink :
    [0x01020304#32, 0x05060708#32].length = wordCount 5#32 ∧ [0x01020304#32, 0x05060708#32].length ≤ 511 ∧
      (AsmLine.sendFrame 5 [0x01020304#32, 0x05060708#32]).expand =
        some [writeOperation 0x6010#16 0x01020304#32, writeOperation 0x6010#16 0x05060708#32, writeOperation 0x6014#16 5#32] ∧
      frameAsked.txl.isEmpty = true ∧ frameAsked.txd.isEmpty = true ∧
      frameAsked.inbox = [writeOperation 0x6010#16 0x01020304#32, writeOperation 0x6010#16 0x05060708#32,
        writeOperation 0x6014#16 5#32].map Request.operation ++ [.operation (bareOperation 0x2000#16)] := by decide

theorem test_witness_EveryInstructionCompletes :
    decodeRequest cfg.base (.operation (bareOperation 0x2020#16)) = .ok .rdFifoRxData := rfl

theorem test_witness_StepKeepsDeviceInvariant :
    DeviceInv busy ∧ ∃ t, step { busy with inbox := [.operation (bareOperation 0x2024#16)] } = .next t :=
  ⟨test_witness_DeviceInv, _, rfl⟩

theorem test_witness_ReadsChangeNothingButRxPops :
    isRead .rdHostUnk14 = true ∧ touchesUndefined .rdHostUnk14 = true ∧ isRead .rdFifoTxData = true ∧
      touchesUndefined .rdFifoTxData = false ∧ Instr.rdHostUnk14 ≠ .rdFifoRxData ∧ Instr.rdFifoTxData ≠ .rdFifoRxLength := by
  decide

theorem test_witness_RepeatedWriteChangesNothing : ∃ t, exec (.wrFifoTxReset 0xA5#32) busy = .next t := ⟨_, rfl⟩

theorem test_witness_BanksAreIndependent :
    bankOf (.wrHostIrqMask 1) = some .host ∧ bankOf (.wrFifoTxData 1) = some .fifo ∧ bankOf .rdMacUnk0 = some .mac ∧
      bankOf .portRxCanAccept = none ∧ ∃ t, exec (.wrFifoTxData 1) busy = .next t :=
  ⟨by decide, by decide, by decide, by decide, _, rfl⟩

theorem test_witness_OneCausePerAccess : (∃ t, exec (.wrHostMdioCtrl 0) init = .next t ∧ t.hostFlags = 1) ∧
    ∃ t, exec .rdFifoRxLength init = .next t :=
  ⟨⟨_, rfl, by decide⟩, _, rfl⟩

theorem test_witness_RegisterWriters : ∃ t, exec (.wrHostIrqMask 1) init = .next t ∧ t.hostMask ≠ init.hostMask :=
  ⟨_, rfl, by decide⟩

theorem test_witness_ErrorConditions :
    errorOf (.wrFifoTxLength 8) (withTx (dataRing 0 0 []) (lenRing 15 0 [])) = some .txOverflow ∧
      errorOf (.wrFifoTxData 8) (withTx (dataRing 511 0 []) (lenRing 0 0 [])) = some .txOverflow ∧
      errorOf .rdFifoRxData init = some .rxUnderflow ∧ errorOf (.wrFifoTxReset 0xA4#32) init = some .invalidReset ∧
      errorOf .rdMacUnk15 init = some .unknownRegister := by decide

theorem test_witness_CleanAccessReportsNothing :
    errorOf (.wrFifoTxLength 0) init = none ∧ ∃ t, exec (.wrFifoTxLength 0) init = .next t :=
  ⟨by decide, _, rfl⟩

theorem test_witness_OversizedRecordBlocks :
    (withTx (dataRing 511 0 []) (lenRing 1 0 [2045])).txl.contents = [2045] ∧ 2044 < (2045#32).toNat ∧
      decodeRequest cfg.base (.operation (writeOperation 0x6008#16 0x1A5#32)) ≠ .ok (.wrFifoTxReset 0xA5#32) ∧
      ∃ t, Sys2Proof.core.run 2 { withTx (dataRing 511 0 []) (lenRing 1 0 [2045]) with
        inbox := [.operation (writeOperation 0x6008#16 0x1A5#32)] } = .next t := by
  refine ⟨by decide, by decide, ?_, _, rfl⟩
  show decode (writeOperation 0x6008#16 0x1A5#32) ≠ _
  decide

theorem test_witness_FullLengthRingBlocks : (withTx (dataRing 5 5 []) (lenRing 4 5 [])).txl.isFull = true ∧
    Instr.wrFifoTxReset 0xA4#32 ≠ .wrFifoTxReset 0xA5#32 := by decide

theorem test_witness_VacancyCountsAcceptedPushes :
    [1, 2, (3 : Word)].length ≤ txVacancy (withTx (dataRing 508 0 []) (lenRing 0 0 [])) ∧
      txVacancy (withTx (dataRing 511 0 []) (lenRing 0 0 [])) = 0 := by decide

end Sys2Proof.Tests
end

section
/-! The rules of push, pop and clear on the fields of a ring (R61, R62, R65), and the obligations on them. -/

namespace Sys2Proof.Machine

variable {N : Nat}

theorem RingBuffer.push_mem_getElem (r : RingBuffer N) (v : Word) (k : Nat) (h : k < N) :
    (r.push v).mem[k] = if k = r.pushIdx.val then v else r.mem[k] := by
  have hword := r.push_wordAt v ⟨k, h⟩
  simpa only [RingBuffer.wordAt_eq, Fin.ext_iff] using hword

@[simp] theorem RingBuffer.pop_ring_mem (r : RingBuffer N) : r.pop.ring.mem = r.mem := by
  cases hempty : r.isEmpty with
  | true => rw [r.pop_ring_of_empty hempty]
  | false => rw [r.pop_ring_of_nonempty hempty]

@[simp] theorem RingBuffer.pop_ring_pushIdx (r : RingBuffer N) : r.pop.ring.pushIdx = r.pushIdx := by
  cases hempty : r.isEmpty with
  | true => rw [r.pop_ring_of_empty hempty]
  | false => rw [r.pop_ring_of_nonempty hempty]

theorem RingBuffer.isEmpty_iff_eq (r : RingBuffer N) : r.isEmpty = true ↔ r.pushIdx = r.popIdx :=
  r.isEmpty_iff.trans Fin.ext_iff.symm

theorem RingBuffer.pop_ring_popIdx_val (r : RingBuffer N) :
    r.pop.ring.popIdx.val = if r.pushIdx = r.popIdx then r.popIdx.val else (r.popIdx.val + 1) % N := by
  by_cases heq : r.pushIdx = r.popIdx
  · rw [if_pos heq, r.pop_ring_of_empty (r.isEmpty_iff_eq.mpr heq)]
  · have hempty : r.isEmpty = false := Bool.eq_false_iff.mpr (mt r.isEmpty_iff_eq.mp heq)
    rw [if_neg heq, r.pop_ring_of_nonempty hempty, RingBuffer.position_val]

/-- The two tests of emptiness agree: occupancy 0 (R59) and equal indices (R58). -/
theorem RingBuffer.occ_eq_zero_iff (r : RingBuffer N) : r.occ = 0 ↔ r.isEmpty = true := by
  have hpop := r.popIdx.isLt
  rw [r.isEmpty_iff]
  rcases r.occ_cases with ⟨hle, hocc⟩ | ⟨hlt, hocc⟩ <;> omega

@[simp] theorem RingBuffer.clear_mem (r : RingBuffer N) : r.clear.mem = r.mem := rfl

@[simp] theorem RingBuffer.clear_pushIdx_val (r : RingBuffer N) : r.clear.pushIdx.val = 0 := Nat.zero_mod N

@[simp] theorem RingBuffer.clear_popIdx_val (r : RingBuffer N) : r.clear.popIdx.val = 0 := Nat.zero_mod N

@[simp] theorem RingBuffer.clear_occ (r : RingBuffer N) : r.clear.occ = 0 :=
  r.clear.occ_eq_zero_iff.mpr (r.clear.isEmpty_iff.mpr (by simp))

/-- Settles O33: push read position by position, and pop split on whether the indices are equal. -/
theorem ringPushAndPop : Obligations.RingPushAndPop := by
  intro N r
  have hpush (v : Word) : (r.push v).pushIdx.val = (r.pushIdx.val + 1) % N := by simp
  exact ⟨fun v => ⟨r.push_popIdx v, hpush v, r.push_mem_getElem v⟩,
    r.wordAt_eq r.popIdx, r.isEmpty_iff_eq, r.pop_ring_mem, r.pop_ring_pushIdx, r.pop_ring_popIdx_val⟩

/-- Settles O35: both indices are position 0, so the ring is empty and its occupancy is 0. -/
theorem ringClear : Obligations.RingClear := fun _ r =>
  ⟨r.clear_pushIdx_val, r.clear_popIdx_val, r.clear_mem, r.clear_occ⟩

end Sys2Proof.Machine
end

section
/-! The Host bank: what the flags' clear operand is bit by bit (R49), the level of the host line
(R132), the next state of each write (R71, R73, R75, R77), and the obligations on it. -/

namespace Sys2Proof.Machine

open Sys2Proof.Laws

theorem hostClearOperand_getLsbD (v : Word) {k : Nat} (hk : k < 2) :
    (hostClearOperand v).getLsbD k = v.getLsbD k := by
  interval_cases k <;> simp [hostClearOperand, hostIrqField]

/-- Of the host flags, the clear keeps those whose bit is written 0 (R77). -/
theorem w1c_hostClearOperand_iff (flags : BitVec 2) (v : Word) {k : Nat} (hk : k < 2) :
    (w1c flags (hostClearOperand v)).getLsbD k = true ↔ flags.getLsbD k = true ∧ v.getLsbD k = false := by
  rw [w1c_getLsbD _ _ k hk, hostClearOperand_getLsbD v hk, Bool.and_eq_true, Bool.not_eq_true']

/-- R132: some enabled flag is set. -/
theorem irqHost_iff (s : State) :
    irqHost s = true ↔ ∃ k, k < 2 ∧ s.hostFlags.getLsbD k = true ∧ s.hostMask.getLsbD k = true :=
  bne_iff_ne.trans (and_ne_zero_iff _ _)

theorem completeRead_zext32 {n : Nat} (x : BitVec n) (s : State) :
    completeRead (zext32 x) s =
      .next { s with replies := s.replies ++ [.value (BitVec.ofNat 32 x.toNat)] } := by
  rw [zext32, ← BitVec.ofNat_toNat]
  rfl

theorem exec_wrHostMdioCtrl (v : Word) (s : State) :
    exec (.wrHostMdioCtrl v) s = .next
      { s with
        mdioCtrl := BitVec.ofNat 11 v.toNat
        mdioData := if v.getLsbD 10 then 0xFFFF#16 else s.mdioData
        hostFlags := s.hostFlags ||| 1#2
        replies := s.replies ++ [.nothing] } := rfl

theorem exec_wrHostMdioData (v : Word) (s : State) :
    exec (.wrHostMdioData v) s =
      .next { s with mdioData := BitVec.ofNat 16 v.toNat, replies := s.replies ++ [.nothing] } := rfl

theorem exec_wrHostIrqMask (v : Word) (s : State) :
    exec (.wrHostIrqMask v) s =
      .next { s with hostMask := BitVec.ofNat 2 v.toNat, replies := s.replies ++ [.nothing] } := rfl

theorem exec_wrHostIrqFlags (v : Word) (s : State) :
    exec (.wrHostIrqFlags v) s =
      .next { s with
        hostFlags := w1c s.hostFlags (hostClearOperand v)
        replies := s.replies ++ [.nothing] } := rfl

/-- An MDIO read request leaves the placeholder in the data register (R69). -/
theorem exec_wrHostMdioCtrl_of_readRequest (c : Word) (hc : c.getLsbD 10 = true) (s : State) :
    ∃ t, exec (.wrHostMdioCtrl c) s = .next t ∧ t.mdioData = 0xFFFF#16 :=
  ⟨_, exec_wrHostMdioCtrl c s, if_pos hc⟩

/-- An instruction whose meaning is a read of an undefined slot, of whichever bank. -/
theorem exec_of_readUnknown {i : Instr} {bank : Bank} {slot : Fin 16}
    (h : ∀ s, exec i s = readUnknown bank slot s) (s : State) :
    exec i s = .next
      { s with
        events := s.events ++ [.diag .unknownRegister bank slot .rd]
        replies := s.replies ++ [.value 0] } :=
  (h s).trans (readUnknown_next bank slot s)

/-- An instruction whose meaning is a write to an undefined slot, of whichever bank. -/
theorem exec_of_writeUnknown {i : Instr} {bank : Bank} {slot : Fin 16} {v : Word}
    (h : ∀ s, exec i s = writeUnknown bank slot v s) (s : State) :
    exec i s = .next
      { s with
        events := s.events ++ [.diag .unknownRegister bank slot .wr]
        replies := s.replies ++ [.nothing] } :=
  (h s).trans (writeUnknown_next bank slot v s)

/-- Settles O12: both clauses read the cleared flags bit by bit. -/
theorem hostFlagsWriteOneToClear : Obligations.HostFlagsWriteOneToClear := by
  intro v s
  refine ⟨decode_wrHostIrqFlags v, _, exec_wrHostIrqFlags v s, rfl,
    fun k hk => w1c_hostClearOperand_iff _ v hk, (irqHost_iff _).trans ?_⟩
  refine exists_congr fun k => and_congr_right fun hk => ?_
  rw [w1c_hostClearOperand_iff _ v hk, and_assoc]

/-- Settles O8: the reads are zero-extensions, and the writes' next states give what is read back. -/
theorem hostRegisterReads : Obligations.HostRegisterReads := by
  refine ⟨⟨decode_rdHostMdioCtrl, decode_rdHostMdioData, decode_rdHostIrqMask, decode_rdHostIrqFlags⟩,
    fun s => ⟨completeRead_zext32 s.mdioCtrl s, completeRead_zext32 s.mdioData s,
      completeRead_zext32 s.hostMask s, completeRead_zext32 s.hostFlags s⟩, fun s v => ?_⟩
  have hselect : (v ||| 0x400#32).getLsbD 10 = true := by simp
  obtain ⟨u, hexec, hdata⟩ := exec_wrHostMdioCtrl_of_readRequest _ hselect s
  exact ⟨_, u, _, _, exec_wrHostMdioCtrl v s, BitVec.toNat_ofNat _ _, hexec, congrArg BitVec.toNat hdata,
    exec_wrHostMdioData v s, BitVec.toNat_ofNat _ _, exec_wrHostIrqMask v s, BitVec.toNat_ofNat _ _⟩

/-- Settles O9: the next state of the write, and the line by its definition. -/
theorem mdioControlWriteRunsShim : Obligations.MdioControlWriteRunsShim := fun v s =>
  ⟨decode_wrHostMdioCtrl v, _, rfl, exec_wrHostMdioCtrl v s, bne_iff_ne⟩

/-- Settles O10: the next state of the write, and of a read request after it. -/
theorem mdioDataWrite : Obligations.MdioDataWrite := fun v s =>
  ⟨decode_wrHostMdioData v, _, rfl, exec_wrHostMdioData v s,
    fun c hc => exec_wrHostMdioCtrl_of_readRequest c hc _⟩

/-- Settles O11: bit `k` of the stored mask is bit `k` of the written word. -/
theorem hostMaskWrite : Obligations.HostMaskWrite := by
  intro v s
  refine ⟨decode_wrHostIrqMask v, _, rfl, exec_wrHostIrqMask v s, (irqHost_iff _).trans ?_⟩
  refine exists_congr fun k => and_congr_right fun hk => ?_
  rw [BitVec.getLsbD_ofNat, decide_eq_true hk, Bool.true_and, BitVec.testBit_toNat]

/-- Settles O14: the write is discarded, and the read returns the parameter from every state. -/
theorem revisionWriteIgnored : Obligations.RevisionWriteIgnored :=
  ⟨decode_rdHostRevision, decode_wrHostRevision, writeDiscarded_next, completeRead_next cfg.revision⟩

/-- Settles O15: each row's word decodes to it, and its meaning is the access to its undefined slot. -/
theorem hostUndefinedSlots : Obligations.HostUndefinedSlots := by
  refine ⟨fun row hrow => ?_, fun row hrow v => ?_⟩
  · simp only [List.mem_cons, List.not_mem_nil, or_false] at hrow
    rcases hrow with rfl | rfl | rfl | rfl | rfl | rfl | rfl | rfl | rfl | rfl <;>
      exact ⟨by simp, exec_of_readUnknown fun _ => rfl⟩
  · simp only [List.mem_cons, List.not_mem_nil, or_false] at hrow
    rcases hrow with rfl | rfl | rfl | rfl | rfl | rfl | rfl | rfl | rfl | rfl <;>
      exact ⟨by simp, exec_of_writeUnknown (v := v) fun _ => rfl⟩

end Sys2Proof.Machine
end

section
/-! The MAC bank: the obligation on its four defined slots (R84, R85). -/

namespace Sys2Proof.Machine

/-- Settles O16: each row's word decodes to it, every read completes with 0 and every write is discarded. -/
theorem macDefinedSlots : Obligations.MacDefinedSlots := by
  refine ⟨fun row hrow => ?_, fun row hrow v => ?_⟩
  · simp only [List.mem_cons, List.not_mem_nil, or_false] at hrow
    rcases hrow with rfl | rfl | rfl | rfl <;> exact ⟨by simp, completeRead_next 0⟩
  · simp only [List.mem_cons, List.not_mem_nil, or_false] at hrow
    rcases hrow with rfl | rfl | rfl | rfl <;> exact ⟨by simp, writeDiscarded_next v⟩

end Sys2Proof.Machine
end

section
/-! The FIFO bank: the bound on a ring's occupancy (R59), the level of the FIFO line (R133), the vacancy and
the two TX writes on the ring indices (R88, R98, R100), and the obligations on the bank. -/

namespace Sys2Proof.Machine

open Sys2Proof.Laws

/-- A ring never holds as many words as it has places (R59). -/
theorem RingBuffer.occ_lt {N : Nat} (r : RingBuffer N) : r.occ < N := by
  have hpush := r.pushIdx.isLt
  rcases r.occ_cases with ⟨_, hocc⟩ | ⟨_, hocc⟩ <;> omega

/-- R133: some enabled status bit is set. -/
theorem irqFifo_iff (s : State) :
    irqFifo s = true ↔ ∃ k, k < 32 ∧ s.fifoStatus.getLsbD k = true ∧ s.fifoEnable.getLsbD k = true :=
  bne_iff_ne.trans (and_ne_zero_iff _ _)

theorem fifoBitsOperand_getLsbD (p : Config.Params) (v : Word) (k : Nat) :
    (fifoBitsOperand p v).getLsbD k = (v.getLsbD k && p.fifoIntField.getLsbD k) :=
  BitVec.getLsbD_and

theorem exec_wrFifoIntEnable (v : Word) (s : State) :
    exec (.wrFifoIntEnable v) s = .next
      { s with fifoEnable := fifoBitsOperand cfg v, replies := s.replies ++ [.nothing] } := rfl

theorem txVacancy_eq (s : State) :
    txVacancy s =
      if (s.txl.pushIdx.val + 1) % 16 = s.txl.popIdx.val then 0 else 511 - s.txd.contents.length := by
  rw [txVacancy, RingBuffer.contents_length]
  simp only [RingBuffer.isFull_iff]
  split <;> omega

theorem txVacancy_le (s : State) : txVacancy s ≤ 511 := by
  rw [txVacancy_eq]
  split <;> omega

/-- R88 after construction: all 511 places are free. -/
theorem txVacancy_reset : txVacancy State.reset = 511 := rfl

theorem countResult_toNat {n : Nat} (h : n < 2 ^ 32) : (countResult n).toNat = n :=
  (BitVec.toNat_ofNat n 32).trans (Nat.mod_eq_of_lt h)

theorem writeTxData_eq (p : Config.Params) (v : Word) (s : State) :
    writeTxData p v s =
      if (s.txl.pushIdx.val + 1) % 16 = s.txl.popIdx.val ∨ (s.txd.pushIdx.val + 1) % 512 = s.txd.popIdx.val then
        s.raise (mTpoe p)
      else { s with txd := s.txd.push v } := by
  simp only [writeTxData, Bool.or_eq_true, RingBuffer.isFull_iff]

theorem queueTxLength_eq (p : Config.Params) (v : Word) (s : State) :
    queueTxLength p v s =
      if (s.txl.pushIdx.val + 1) % 16 = s.txl.popIdx.val then s.raise (mTpoe p)
      else txPipeline p { s with txl := s.txl.push v } := by
  simp only [queueTxLength, RingBuffer.isFull_iff]

@[simp] theorem txPipeline_replies (p : Config.Params) (s : State) : (txPipeline p s).replies = s.replies := by
  obtain ⟨_, _, _, h⟩ := txPipeline_frame p s
  rw [h]

@[simp] theorem queueTxLength_replies (p : Config.Params) (v : Word) (s : State) :
    (queueTxLength p v s).replies = s.replies := by
  rw [queueTxLength_eq]
  split <;> simp

theorem exec_wrFifoTxLength (v : Word) (s : State) :
    exec (.wrFifoTxLength v) s = .next
      { queueTxLength cfg v s with
        shadow5 := if cfg.shadowTracksWrites then v else s.shadow5
        replies := s.replies ++ [.nothing] } := by
  rw [← queueTxLength_replies cfg v s]
  rfl

/-- Settles O20: both clauses read the stored mask bit by bit. -/
theorem fifoEnableWrite : Obligations.FifoEnableWrite := by
  intro v s
  refine ⟨decode_wrFifoIntEnable v, _, exec_wrFifoIntEnable v s, rfl,
    fun k _ => fifoBitsOperand_getLsbD cfg v k, (irqFifo_iff _).trans ?_⟩
  simp only [fifoBitsOperand_getLsbD, Bool.and_eq_true]

/-- Settles O24: the number returned is the vacancy, which fits a word. -/
theorem txVacancyRead : Obligations.TxVacancyRead := by
  refine ⟨decode_rdFifoTxVacancy, fun s => ⟨_, completeRead_next _ s, ?_, ?_⟩, ?_⟩
  · rw [RingBuffer.contents_length]
    exact Nat.le_of_lt_succ s.txd.occ_lt
  · have hle := txVacancy_le s
    rw [countResult_toNat (by omega), txVacancy_eq]
  · exact congrArg (fun n => completeRead (countResult n) State.reset) txVacancy_reset

/-- Settles O25: each row's word decodes to it, and its meaning discards the value. -/
theorem discardedFifoWrites : Obligations.DiscardedFifoWrites := by
  intro row hrow v
  simp only [List.mem_cons, List.not_mem_nil, or_false] at hrow
  rcases hrow with rfl | rfl | rfl | rfl <;> exact ⟨by simp, writeDiscarded_next v⟩

/-- Settles O26: the write completes with the overflow bit or the pushed ring, by fullness on the indices. -/
theorem txDataWrite : Obligations.TxDataWrite := by
  refine fun v s => ⟨decode_wrFifoTxData v, (completeWrite_next _).trans (congrArg _ ?_)⟩
  rw [writeTxData_eq]
  split <;> rfl

/-- Settles O27: the state before the shadow word is that of the queue, by fullness on the indices. -/
theorem txLengthWrite : Obligations.TxLengthWrite := fun v s =>
  ⟨decode_wrFifoTxLength v, queueTxLength cfg v s, queueTxLength_eq cfg v s, exec_wrFifoTxLength v s⟩

/-- Settles O30: each row's word decodes to it, and its meaning is the access to its undefined slot. -/
theorem fifoUndefinedSlots : Obligations.FifoUndefinedSlots := by
  refine ⟨fun row hrow => ?_, fun row hrow v => ?_⟩
  · simp only [List.mem_cons, List.not_mem_nil, or_false] at hrow
    rcases hrow with rfl | rfl | rfl | rfl | rfl | rfl <;>
      exact ⟨by simp, exec_of_readUnknown fun _ => rfl⟩
  · simp only [List.mem_cons, List.not_mem_nil, or_false] at hrow
    rcases hrow with rfl | rfl | rfl | rfl | rfl | rfl <;>
      exact ⟨by simp, exec_of_writeUnknown (v := v) fun _ => rfl⟩

end Sys2Proof.Machine
end

section
/-! Frame assembly: the four bytes of a word (R115), the words' bytes by position, the exact length (R116). -/

namespace Sys2Proof.Machine

@[simp] theorem bytesOf_length (order : Config.FrameByteOrder) (w : Word) : (bytesOf order w).length = 4 := by
  cases order <;> rfl

theorem bytesOf_lsbFirst (w : Word) : bytesOf .lsbFirst w = (bytesOf .msbFirst w).reverse := rfl

theorem bytesOf_msbFirst (w : Word) :
    bytesOf .msbFirst w = [BitVec.ofNat 8 (w.toNat / 2 ^ 24), BitVec.ofNat 8 (w.toNat / 2 ^ 16),
      BitVec.ofNat 8 (w.toNat / 2 ^ 8), BitVec.ofNat 8 w.toNat] := by
  simp only [bytesOf, BitVec.extractLsb', Nat.shiftRight_eq_div_pow, pow_zero, Nat.div_one]

theorem flatMap_bytesOf_length (order : Config.FrameByteOrder) (words : List Word) :
    (words.flatMap (bytesOf order)).length = 4 * words.length := by
  simp [List.length_flatMap, Nat.mul_comm]

/-- Every word gives four bytes, so byte `j` of the words' bytes lies in word `j / 4`. -/
theorem flatMap_bytesOf_getElem? (order : Config.FrameByteOrder) (words : List Word) (j : Nat) :
    (words.flatMap (bytesOf order))[j]? = words[j / 4]?.bind fun w => (bytesOf order w)[j % 4]? := by
  induction words generalizing j with
  | nil => simp
  | cons w rest ih =>
    rw [List.flatMap_cons]
    rcases Nat.lt_or_ge j 4 with hlt | hge
    · rw [List.getElem?_append_left (by simpa using hlt), Nat.div_eq_of_lt hlt, Nat.mod_eq_of_lt hlt]
      rfl
    · have hdiv : j / 4 = (j - 4) / 4 + 1 := Nat.div_eq_sub_div (by decide) hge
      rw [List.getElem?_append_right (by simpa using hge), bytesOf_length, ih, hdiv,
        List.getElem?_cons_succ, Nat.mod_eq_sub_mod hge]

/-- The word count is the ceiling: its words hold the length and at most three bytes more (R113). -/
theorem wordCount_bounds (len : Word) :
    len.toNat ≤ 4 * wordCount len ∧ 4 * wordCount len ≤ len.toNat + 3 := by
  unfold wordCount
  omega

theorem assembleFrame_length (order : Config.FrameByteOrder) (words : List Word) (len : Word)
    (hlen : len.toNat ≤ 4 * words.length) : (assembleFrame order words len).length = len.toNat := by
  rw [assembleFrame, List.length_take_of_le (by rwa [flatMap_bytesOf_length])]

theorem assembleFrame_getElem? (order : Config.FrameByteOrder) (words : List Word) (len : Word) {j : Nat}
    (hj : j < len.toNat) :
    (assembleFrame order words len)[j]? = words[j / 4]?.bind fun w => (bytesOf order w)[j % 4]? := by
  rw [assembleFrame, List.getElem?_take_of_lt hj, flatMap_bytesOf_getElem?]

/-- Settles O37: the frame is a prefix of the words' bytes, which the word count makes long enough. -/
theorem frameAssembly : Obligations.FrameAssembly := by
  refine ⟨fun w => ⟨bytesOf_msbFirst w, bytesOf_lsbFirst w⟩, fun order words len hwords => ?_⟩
  obtain ⟨hfits, hspare⟩ := wordCount_bounds len
  rw [← hwords] at hfits hspare
  exact ⟨assembleFrame_length order words len hfits, Nat.sub_le_iff_le_add'.mpr hspare, hfits,
    fun _ => assembleFrame_getElem? order words len⟩

end Sys2Proof.Machine
end

section
/-! The receive port: what each of its two operations answers (R122, R123). -/

namespace Sys2Proof.Machine

open Sys2Proof.Laws

@[simp] theorem exec_portRxCanAccept (s : State) : exec .portRxCanAccept s = .next (s.reply (.canAccept false)) := rfl

@[simp] theorem exec_portRxDeliver (frame : List Byte) (s : State) :
    exec (.portRxDeliver frame) s = .next (s.reply .failure) := rfl

/-- Settles O31: each descriptor decodes to its operation, and each operation does nothing but reply. -/
theorem receivePortIsStub : Obligations.ReceivePortIsStub :=
  ⟨⟨decode_portRxCanAccept, decode_portRxDeliver⟩, exec_portRxCanAccept, exec_portRxDeliver⟩

end Sys2Proof.Machine
end

section
/-! Exceptions: no access raises one. What an access does before it replies keeps the host's side of the
state, every access replies once (R126), and the interrupt lines are levels of the state (R132 to R134). -/

namespace Sys2Proof.Machine

/-- From `s` to `u` the device has replied to nothing, has taken no request and has only added events: what
every access does before its one reply. -/
structure State.OnlyEmits (s u : State) : Prop where
  replies : u.replies = s.replies
  inbox : u.inbox = s.inbox
  events : s.events <+: u.events

/-- A change that also emits nothing, such as an update of registers or rings. -/
theorem State.OnlyEmits.silent {s u : State} (hreplies : u.replies = s.replies) (hinbox : u.inbox = s.inbox)
    (hevents : u.events = s.events) : s.OnlyEmits u :=
  ⟨hreplies, hinbox, hevents ▸ List.prefix_rfl⟩

theorem State.OnlyEmits.refl (s : State) : s.OnlyEmits s := .silent rfl rfl rfl

theorem State.onlyEmits_diagnoseUnknown (s : State) (bank : Bank) (slot : Fin 16) (dir : Dir) :
    s.OnlyEmits (s.diagnoseUnknown bank slot dir) :=
  ⟨rfl, rfl, List.prefix_append _ _⟩

theorem State.onlyEmits_popRxData (p : Config.Params) (s : State) : s.OnlyEmits (popRxData p s) := by
  rcases popRxData_cases p s with ⟨_, h⟩ | ⟨_, h⟩ <;> rw [h] <;> exact .silent rfl rfl rfl

theorem State.onlyEmits_popRxLength (p : Config.Params) (s : State) : s.OnlyEmits (popRxLength p s) := by
  rcases popRxLength_cases p s with ⟨_, h⟩ | ⟨_, h⟩ <;> rw [h] <;> exact .silent rfl rfl rfl

theorem State.onlyEmits_writeTxData (p : Config.Params) (v : Word) (s : State) :
    s.OnlyEmits (writeTxData p v s) := by
  rcases writeTxData_cases p v s with ⟨_, h⟩ | ⟨_, _, h⟩ <;> rw [h] <;> exact .silent rfl rfl rfl

theorem State.onlyEmits_writeTxLength (p : Config.Params) (v : Word) (s : State) :
    s.OnlyEmits (writeTxLength p v s) := by
  rcases writeTxLength_cases p v s with ⟨_, h⟩ | ⟨_, _, _, frames, h⟩ <;> rw [h]
  · exact .silent rfl rfl rfl
  · exact ⟨rfl, rfl, List.prefix_append _ _⟩

theorem State.onlyEmits_txReset (s : State) (magic : Bool) (shadow : Word) :
    s.OnlyEmits { (if magic then s.clearTx else s) with shadow2 := shadow } := by
  cases magic <;> exact .silent rfl rfl rfl

theorem State.onlyEmits_rxReset (s : State) (magic : Bool) (shadow : Word) :
    s.OnlyEmits { (if magic then s.clearRx else s) with shadow6 := shadow } := by
  cases magic <;> exact .silent rfl rfl rfl

/-- The access presented in `s` completes with exactly one reply (R126), having only emitted before it. -/
def Completes (s : State) (result : Result) : Prop :=
  ∃ (u : State) (r : Reply), s.OnlyEmits u ∧ result = .next (u.reply r)

theorem completes_completeRead (w : Word) {s u : State} (h : s.OnlyEmits u) : Completes s (completeRead w u) :=
  ⟨u, _, h, completeRead_next w u⟩

theorem completes_completeWrite {s u : State} (h : s.OnlyEmits u) : Completes s (completeWrite u) :=
  ⟨u, _, h, completeWrite_next u⟩

theorem completes_readUnknown (bank : Bank) (slot : Fin 16) (s : State) :
    Completes s (readUnknown bank slot s) :=
  completes_completeRead 0 (s.onlyEmits_diagnoseUnknown bank slot .rd)

theorem completes_writeUnknown (bank : Bank) (slot : Fin 16) (v : Word) (s : State) :
    Completes s (writeUnknown bank slot v s) :=
  completes_completeWrite (s.onlyEmits_diagnoseUnknown bank slot .wr)

/-- Every instruction completes, by what kind of access it is: a read that changes nothing, an RX pop, a
write that stores or discards, a TX push, a ring reset, an undefined slot, a port operation. -/
theorem exec_completes (i : Instr) (s : State) : Completes s (exec i s) := by
  cases i with
  | rdHostMdioCtrl | rdHostMdioData | rdHostIrqMask | rdHostIrqFlags | rdHostVlanMask | rdHostRevision
  | rdMacRxConfig | rdMacTxConfig | rdMacSpeedConfig | rdMacMdioConfig
  | rdFifoIntStatus | rdFifoIntEnable | rdFifoTxReset | rdFifoTxVacancy | rdFifoTxData | rdFifoTxLength
  | rdFifoRxReset | rdFifoRxOccupancy => exact completes_completeRead _ (.refl s)
  | rdFifoRxData => exact completes_completeRead _ (s.onlyEmits_popRxData cfg)
  | rdFifoRxLength => exact completes_completeRead _ (s.onlyEmits_popRxLength cfg)
  | wrHostMdioCtrl | wrHostMdioData | wrHostIrqMask | wrHostIrqFlags | wrHostVlanMask | wrHostRevision
  | wrMacRxConfig | wrMacTxConfig | wrMacSpeedConfig | wrMacMdioConfig
  | wrFifoIntStatus | wrFifoIntEnable | wrFifoTxVacancy | wrFifoRxOccupancy | wrFifoRxData | wrFifoRxLength =>
    exact completes_completeWrite (.silent rfl rfl rfl)
  | wrFifoTxData v => exact completes_completeWrite (s.onlyEmits_writeTxData cfg v)
  | wrFifoTxLength v => exact completes_completeWrite (s.onlyEmits_writeTxLength cfg v)
  | wrFifoTxReset v => exact completes_completeWrite (s.onlyEmits_txReset (isResetMagic v) _)
  | wrFifoRxReset v => exact completes_completeWrite (s.onlyEmits_rxReset (isResetMagic v) _)
  | rdHostUnk5 | rdHostUnk6 | rdHostUnk7 | rdHostUnk8 | rdHostUnk9 | rdHostUnk10 | rdHostUnk11 | rdHostUnk12
  | rdHostUnk13 | rdHostUnk14
  | rdMacUnk0 | rdMacUnk3 | rdMacUnk6 | rdMacUnk7 | rdMacUnk8 | rdMacUnk9 | rdMacUnk10 | rdMacUnk11
  | rdMacUnk12 | rdMacUnk13 | rdMacUnk14 | rdMacUnk15
  | rdFifoUnk10 | rdFifoUnk11 | rdFifoUnk12 | rdFifoUnk13 | rdFifoUnk14 | rdFifoUnk15 =>
    exact completes_readUnknown _ _ s
  | wrHostUnk5 v | wrHostUnk6 v | wrHostUnk7 v | wrHostUnk8 v | wrHostUnk9 v | wrHostUnk10 v | wrHostUnk11 v
  | wrHostUnk12 v | wrHostUnk13 v | wrHostUnk14 v
  | wrMacUnk0 v | wrMacUnk3 v | wrMacUnk6 v | wrMacUnk7 v | wrMacUnk8 v | wrMacUnk9 v | wrMacUnk10 v
  | wrMacUnk11 v | wrMacUnk12 v | wrMacUnk13 v | wrMacUnk14 v | wrMacUnk15 v
  | wrFifoUnk10 v | wrFifoUnk11 v | wrFifoUnk12 v | wrFifoUnk13 v | wrFifoUnk14 v | wrFifoUnk15 v =>
    exact completes_writeUnknown _ _ v s
  | portRxCanAccept => exact ⟨s, _, .refl s, exec_portRxCanAccept s⟩
  | portRxDeliver frame => exact ⟨s, _, .refl s, exec_portRxDeliver frame s⟩

/-- A request the decoder accepts is taken from the inbox, and its instruction runs (R3, R41). -/
theorem step_eq_exec_of_decoded {s : State} {r : Request} {rest : List Request} {i : Instr}
    (hinbox : s.inbox = r :: rest) (hdecode : decodeRequest cfg.base r = .ok i) :
    step s = exec i { s with inbox := rest } := by
  simp only [step, fetch, hinbox, hdecode]

/-- Settles O45: every instruction completes, and the step of an accepted request runs one. -/
theorem everyInstructionCompletes : Obligations.EveryInstructionCompletes := by
  refine ⟨fun i s => ?_, fun s r rest i hinbox hdecode => ?_⟩
  · obtain ⟨u, r, hemits, hexec⟩ := exec_completes i s
    obtain ⟨es, hevents⟩ := hemits.events
    exact ⟨u.reply r, r, es, hexec, congrArg (· ++ [r]) hemits.replies, hevents.symm, hemits.inbox⟩
  · obtain ⟨u, r, _, hexec⟩ := exec_completes i { s with inbox := rest }
    exact ⟨u.reply r, (step_eq_exec_of_decoded hinbox hdecode).trans hexec⟩

/-- Settles O56: each driven line bit by bit; the phy line and the sampled levels by definition. -/
theorem interruptLineLevels : Obligations.InterruptLineLevels := fun s =>
  ⟨irqHost_iff s, irqFifo_iff s, rfl, rfl⟩

end Sys2Proof.Machine
end

section
/-! The decoder: what it accepts of a bus access and of a port operation (R46, R47, R51), and the
obligations on decoding. -/

namespace Sys2Proof.Laws

open Sys2Proof.Machine

/-- The `kind` code of a bus access (R46). -/
def busKind (dir : Dir) : BitVec 2 :=
  match dir with
  | .rd => 0#2
  | .wr => 1#2

/-- The number of a bank in a descriptor (R46). -/
def bankNumber (bank : Bank) : Nat :=
  match bank with
  | .host => 0
  | .mac => 1
  | .fifo => 2

theorem decode_of_bus {dir : Dir} {op : Operation} (h : kindField op.descriptor = busKind dir) :
    decode op = decodeBus dir op := by
  cases dir <;> simp [decode, h, busKind]

theorem decode_of_port {op : Operation} (h : kindField op.descriptor = 2#2) : decode op = decodePort op := by
  simp [decode, h]

theorem decode_of_reserved {op : Operation} (h : kindField op.descriptor = 3#2) :
    decode op = .error .reservedKind := by
  simp [decode, h]

theorem kindField_cases (A : BitVec 16) :
    (∃ dir, kindField A = busKind dir) ∨ kindField A = 2#2 ∨ kindField A = 3#2 := by
  have h : ∀ k : BitVec 2, k = busKind .rd ∨ k = busKind .wr ∨ k = 2#2 ∨ k = 3#2 := by decide
  rcases h (kindField A) with h | h | h | h
  · exact .inl ⟨.rd, h⟩
  · exact .inl ⟨.wr, h⟩
  · exact .inr (.inl h)
  · exact .inr (.inr h)

theorem selectedBank_eq_none_iff (code : BitVec 2) : selectedBank code = none ↔ code.toNat = 3 := by
  revert code
  decide

theorem selectedBank_eq_some_iff (code : BitVec 2) (bank : Bank) :
    selectedBank code = some bank ↔ code.toNat = bankNumber bank := by
  cases bank <;> revert code <;> decide

/-- A descriptor in a bus window is the one of its direction, its bank and its slot (R46). -/
theorem registerDescriptor_of_fields {A : BitVec 16} {dir : Dir} {bank : Bank}
    (hkind : kindField A = busKind dir) (hbank : selectedBank (bankField A) = some bank)
    (hwin : winField A = 0#6) (halign : alignField A = 0#2) :
    registerDescriptor dir bank (slotField A).toNat = A := by
  rw [selectedBank_eq_some_iff, bankField_toNat] at hbank
  replace hkind := congrArg BitVec.toNat hkind
  replace hwin := congrArg BitVec.toNat hwin
  replace halign := congrArg BitVec.toNat halign
  rw [kindField_toNat] at hkind
  rw [winField_toNat] at hwin
  rw [alignField_toNat] at halign
  refine BitVec.eq_of_toNat_eq ?_
  cases dir <;> cases bank <;>
    simp only [registerDescriptor, slotField_toNat, busKind, bankNumber, BitVec.toNat_ofNat] at * <;> omega

/-- The operation a table row is presented as, in either direction. -/
theorem encode_tableRow (dir : Dir) (bank : Bank) (slot : BitVec 4) (v : Word) :
    encode (tableRow dir bank slot v) =
      ⟨registerDescriptor dir bank slot.toNat, 4, if dir = .wr then v else 0, []⟩ := by
  cases dir
  · exact encode_tableRow_rd bank slot v
  · exact encode_tableRow_wr bank slot v

/-- A bus access is accepted exactly inside a window, word aligned and 4 bytes wide (R47). -/
theorem decodeBus_eq_ok_iff {dir : Dir} {op : Operation} {i : Instr} :
    decodeBus dir op = .ok i ↔ op.size = 4 ∧ ∃ bank, selectedBank (bankField op.descriptor) = some bank ∧
      winField op.descriptor = 0#6 ∧ alignField op.descriptor = 0#2 ∧
      tableRow dir bank (slotField op.descriptor) op.value = i := by
  by_cases hsize : op.size = 4
  · cases hbank : selectedBank (bankField op.descriptor) with
    | none => simp [decodeBus, hsize, hbank]
    | some bank =>
      by_cases hwin : winField op.descriptor = 0#6
      · by_cases halign : alignField op.descriptor = 0#2 <;> simp [decodeBus, hsize, hbank, hwin, halign]
      · simp [decodeBus, hsize, hbank, hwin]
  · simp [decodeBus, hsize]

theorem normalise_of_bus {dir : Dir} {op : Operation} (hkind : kindField op.descriptor = busKind dir) :
    op.normalise = ⟨op.descriptor, op.size, if dir = .wr then op.value else 0, []⟩ := by
  have hbus : op.isBus = true := by
    have hcode := congrArg BitVec.toNat hkind
    rw [kindField_toNat] at hcode
    rw [Operation.isBus, hcode]
    cases dir <;> rfl
  have hframe : op.descriptor ≠ 0x8001#16 := by
    intro h
    rw [h] at hkind
    cases dir <;> exact absurd hkind (by decide)
  cases dir <;> simp [Operation.normalise, hbus, hframe, hkind, busKind]

/-- A port operation's number is 0x8000 and its `zero` and `port` fields. -/
theorem port_toNat {A : BitVec 16} (hkind : kindField A = 2#2) :
    A.toNat = 0x8000 + 0x10 * (zeroField A).toNat + (portField A).toNat := by
  replace hkind := congrArg BitVec.toNat hkind
  rw [kindField_toNat] at hkind
  rw [zeroField_toNat, portField_toNat]
  change A.toNat / 0x4000 = 2 at hkind
  omega

theorem winField_ne_zero_iff (A : BitVec 16) : winField A ≠ 0#6 ↔ 0x40 ≤ A.toNat % 0x1000 := by
  rw [Ne, ← BitVec.toNat_inj, winField_toNat, BitVec.toNat_ofNat]
  omega

theorem alignField_ne_zero_iff (A : BitVec 16) : alignField A ≠ 0#2 ↔ A.toNat % 4 ≠ 0 := by
  rw [Ne, ← BitVec.toNat_inj, alignField_toNat, BitVec.toNat_ofNat]

/-- The checks on a bus access in the order of R47, on the descriptor's number. -/
theorem decodeBus_checks (dir : Dir) (op : Operation) (hkind : kindField op.descriptor = busKind dir) :
    if op.size ≠ 4 then decodeBus dir op = .error .narrowOrWideAccess
    else if op.descriptor.toNat % 0x4000 / 0x1000 = 3 then decodeBus dir op = .error .outsideWindow
    else if 0x40 ≤ op.descriptor.toNat % 0x1000 then decodeBus dir op = .error .outsideWindow
    else if op.descriptor.toNat % 4 ≠ 0 then decodeBus dir op = .error .misalignedAccess
    else ∃ i, decodeBus dir op = .ok i ∧ (encode i).descriptor = op.descriptor := by
  simp only [← bankField_toNat, ← selectedBank_eq_none_iff, ← winField_ne_zero_iff, ← alignField_ne_zero_iff]
  split_ifs with hsize hbank hwin halign
  · simp [decodeBus, hsize]
  · simp [decodeBus, hsize, hbank]
  · cases hb : selectedBank (bankField op.descriptor) <;> simp_all [decodeBus]
  · cases hb : selectedBank (bankField op.descriptor) <;> simp_all [decodeBus]
  · obtain ⟨bank, hb⟩ := Option.ne_none_iff_exists'.mp hbank
    refine ⟨_, decodeBus_eq_ok_iff.mpr ⟨not_not.mp hsize, bank, hb, not_not.mp hwin, not_not.mp halign, rfl⟩, ?_⟩
    rw [encode_tableRow]
    exact registerDescriptor_of_fields hkind hb (not_not.mp hwin) (not_not.mp halign)

/-- The checks on a port operation (R47, R125), on the descriptor's number. -/
theorem decodePort_checks (op : Operation) (hkind : kindField op.descriptor = 2#2) :
    if op.descriptor.toNat = 0x8000 then decodePort op = .ok .portRxCanAccept
    else if op.descriptor.toNat = 0x8001 then decodePort op = .ok (.portRxDeliver op.frame)
    else decodePort op = .error .reservedPortOp := by
  have hnum := port_toNat hkind
  have hport := (portField op.descriptor).isLt
  have hcan : op.descriptor.toNat = 0x8000 ↔ zeroField op.descriptor = 0#10 ∧ portField op.descriptor = 0#4 := by
    simp only [← BitVec.toNat_inj, BitVec.toNat_ofNat]
    omega
  have hdeliver : op.descriptor.toNat = 0x8001 ↔
      zeroField op.descriptor = 0#10 ∧ portField op.descriptor = 1#4 := by
    simp only [← BitVec.toNat_inj, BitVec.toNat_ofNat]
    omega
  simp only [hcan, hdeliver, decodePort]
  by_cases hzero : zeroField op.descriptor = 0#10
  · by_cases h0 : portField op.descriptor = 0#4
    · simp [hzero, h0]
    · by_cases h1 : portField op.descriptor = 1#4 <;> simp [hzero, h0, h1]
  · simp [hzero]

/-- Settles O3: each kind has its own checks. -/
theorem decodeChecksInOrder : Obligations.DecodeChecksInOrder := by
  intro op
  have hnum := kindField_toNat op.descriptor
  rcases kindField_cases op.descriptor with ⟨dir, hkind⟩ | hkind | hkind
  · have hlt : op.descriptor.toNat < 0x8000 := by
      rw [hkind] at hnum
      cases dir <;> simp only [busKind, BitVec.toNat_ofNat] at hnum <;> omega
    rw [if_neg (by omega), if_pos hlt, decode_of_bus hkind]
    exact decodeBus_checks dir op hkind
  · rw [hkind, BitVec.toNat_ofNat] at hnum
    rw [if_neg (by omega), if_neg (by omega), decode_of_port hkind]
    exact decodePort_checks op hkind
  · rw [hkind, BitVec.toNat_ofNat] at hnum
    rw [if_pos (by omega)]
    exact decode_of_reserved hkind

theorem wellFormed_iff (op : Operation) : op.wellFormed = true ↔
    (op.descriptor.toNat < 0x8000 ∧ op.size = 4 ∧ op.descriptor.toNat % 0x4000 / 0x1000 ≠ 3 ∧
      op.descriptor.toNat % 0x1000 < 0x40 ∧ op.descriptor.toNat % 4 = 0) ∨
    op.descriptor.toNat = 0x8000 ∨ op.descriptor.toNat = 0x8001 := by
  have hlt := op.descriptor.isLt
  simp only [Operation.wellFormed, Operation.kindDefined, Operation.widthAdmitted, Operation.bankExists,
    Operation.insideWindow, Operation.aligned, Operation.portDefined, Operation.isBus, Bool.and_eq_true,
    Bool.or_eq_true, Bool.not_eq_true', bne_iff_ne, beq_iff_eq, decide_eq_true_eq, decide_eq_false_iff_not]
  omega

theorem not_decodes_of_error {op : Operation} {why : Reject} (h : decode op = .error why) :
    ¬ ∃ i, decode op = .ok i := by
  simp [h]

/-- Settles O4: check by check, what is refused is not well formed and the rest is. -/
theorem admittedMeansWellFormed : Obligations.AdmittedMeansWellFormed := by
  intro op
  have hchecks := decodeChecksInOrder op
  rw [wellFormed_iff]
  split_ifs at hchecks
  · exact iff_of_false (not_decodes_of_error hchecks) (by omega)
  · exact iff_of_false (not_decodes_of_error hchecks) (by omega)
  · exact iff_of_false (not_decodes_of_error hchecks) (by omega)
  · exact iff_of_false (not_decodes_of_error hchecks) (by omega)
  · exact iff_of_false (not_decodes_of_error hchecks) (by omega)
  · obtain ⟨i, hi, _⟩ := hchecks
    exact iff_of_true ⟨i, hi⟩ (by omega)
  · exact iff_of_true ⟨_, hchecks⟩ (by omega)
  · exact iff_of_true ⟨_, hchecks⟩ (by omega)
  · exact iff_of_false (not_decodes_of_error hchecks) (by omega)

/-- Each row's own decoding law, for every row. -/
theorem decode_encode (i : Instr) : decode (encode i) = .ok i := by
  cases i <;> simp [encode]

/-- What a bus access decodes to is presented as that access. -/
theorem normalise_of_decodeBus {dir : Dir} {op : Operation} {i : Instr}
    (hkind : kindField op.descriptor = busKind dir) (hdecode : decodeBus dir op = .ok i) :
    op.normalise = encode i := by
  obtain ⟨hsize, bank, hbank, hwin, halign, rfl⟩ := decodeBus_eq_ok_iff.mp hdecode
  rw [normalise_of_bus hkind, encode_tableRow, registerDescriptor_of_fields hkind hbank hwin halign, hsize]

/-- What a port operation decodes to is presented as that operation. -/
theorem normalise_of_decodePort {op : Operation} {i : Instr} (hkind : kindField op.descriptor = 2#2)
    (hdecode : decodePort op = .ok i) : op.normalise = encode i := by
  have hbus : op.isBus = false := by
    have hcode := congrArg BitVec.toNat hkind
    rw [kindField_toNat] at hcode
    rw [Operation.isBus, hcode]
    rfl
  have hchecks := decodePort_checks op hkind
  split_ifs at hchecks with h0 h1
  · obtain rfl : Instr.portRxCanAccept = i := Except.ok.inj (hchecks.symm.trans hdecode)
    have hd : op.descriptor = 0x8000#16 := BitVec.eq_of_toNat_eq h0
    simp [Operation.normalise, encode, bareOperation, hbus, hd, kindField]
  · obtain rfl : Instr.portRxDeliver op.frame = i := Except.ok.inj (hchecks.symm.trans hdecode)
    have hd : op.descriptor = 0x8001#16 := BitVec.eq_of_toNat_eq h1
    simp [Operation.normalise, encode, hbus, hd, kindField]
  · exact nomatch hchecks.symm.trans hdecode

theorem normalise_of_decode {op : Operation} {i : Instr} (hdecode : decode op = .ok i) :
    op.normalise = encode i := by
  rcases kindField_cases op.descriptor with ⟨dir, hkind⟩ | hkind | hkind
  · exact normalise_of_decodeBus hkind (decode_of_bus hkind ▸ hdecode)
  · exact normalise_of_decodePort hkind (decode_of_port hkind ▸ hdecode)
  · exact nomatch (decode_of_reserved hkind).symm.trans hdecode

/-- Settles O2: every row decodes back, and an accepted operation is its row's encoding. -/
theorem decodeInvertsEncode : Obligations.DecodeInvertsEncode :=
  ⟨decode_encode, fun _ _ => normalise_of_decode⟩

/-- Settles O1: seven rows and refusals by evaluation, and the length write by its row's law. -/
theorem decodedWordsAreRight : Obligations.DecodedWordsAreRight :=
  ⟨decode_rdFifoTxLength, decode_wrFifoTxLength, rfl, rfl, rfl, rfl, rfl, rfl, rfl, decode_rdMacUnk15⟩

/-- A word-aligned 4-byte access in a window is accepted, and presented as what its descriptor uses of it. -/
theorem decode_bus_inside {dir : Dir} {A : BitVec 16} (v : Word) (hkind : A.toNat / 0x4000 = (busKind dir).toNat)
    (hbank : A.toNat % 0x4000 / 0x1000 ≠ 3) (hwin : A.toNat % 0x1000 < 0x40) (halign : A.toNat % 4 = 0) :
    ∃ i, decode ⟨A, 4, v, []⟩ = .ok i ∧ encode i = ⟨A, 4, if dir = .wr then v else 0, []⟩ := by
  have hbus : A.toNat < 0x8000 := by
    cases dir <;> simp only [busKind, BitVec.toNat_ofNat] at hkind <;> omega
  obtain ⟨i, hi⟩ := (admittedMeansWellFormed ⟨A, 4, v, []⟩).mpr
    ((wellFormed_iff _).mpr (.inl ⟨hbus, rfl, hbank, hwin, halign⟩))
  have hkind : kindField A = busKind dir := BitVec.eq_of_toNat_eq ((kindField_toNat A).trans hkind)
  exact ⟨i, hi, (normalise_of_decode hi).symm.trans (normalise_of_bus hkind)⟩

theorem busDescriptor_rd (base : Nat) {offset : Nat} (h : offset < 0x4000) :
    busDescriptor base .rd (base + offset) = some (BitVec.ofNat 16 offset) := by
  simp [busDescriptor, h]

theorem busDescriptor_wr (base : Nat) {offset : Nat} (h : offset < 0x4000) :
    busDescriptor base .wr (base + offset) = some (BitVec.ofNat 16 (0x4000 + offset)) := by
  simp [busDescriptor, h]

theorem busDescriptor_outside {base addr : Nat} (dir : Dir) (h : addr < base ∨ base + 0x4000 ≤ addr) :
    busDescriptor base dir addr = none :=
  if_neg (by omega)

theorem decodeRequest_bus (base addr size : Nat) (dir : Dir) (v : Word) {A : BitVec 16}
    (h : busDescriptor base dir addr = some A) :
    decodeRequest base (.bus dir addr size v) = decode ⟨A, size, v, []⟩ := by
  simp [decodeRequest, h]

/-- Settles O5: the address gives the descriptor of its direction and offset, which passes every check. -/
theorem busAddressSelectsSlot : Obligations.BusAddressSelectsSlot := by
  refine ⟨fun base bank slot v hbank hslot => ?_, fun base addr size dir v haddr => ?_⟩
  · have hoffset : 0x1000 * bank + 4 * slot < 0x4000 := by omega
    simp only [Nat.add_assoc, decodeRequest_bus _ _ _ _ _ (busDescriptor_rd base hoffset),
      decodeRequest_bus _ _ _ _ _ (busDescriptor_wr base hoffset)]
    constructor
    · apply decode_bus_inside (dir := .rd) v <;> simp only [busKind, BitVec.toNat_ofNat] <;> omega
    · apply decode_bus_inside (dir := .wr) v <;> simp only [busKind, BitVec.toNat_ofNat] <;> omega
  · simp [decodeRequest, busDescriptor_outside dir haddr]

end Sys2Proof.Laws
end

section
/-! A ring as a queue: the occupancy tests (R58 to R60), the contents after each primitive (R61 to R67), and
the obligations on them. -/

namespace Sys2Proof.Machine

variable {N : Nat}

/-- A ring is full with one place free (R60). -/
theorem RingBuffer.isFull_iff_occ (r : RingBuffer N) : r.isFull = true ↔ r.occ = N - 1 := by
  have hpush := r.pushIdx.isLt
  have hpop := r.popIdx.isLt
  rw [r.isFull_iff]
  rcases mod_cases (a := r.pushIdx.val + 1) (n := N) (by omega) with ⟨_, hmod⟩ | ⟨_, hmod⟩ <;>
    rcases r.occ_cases with ⟨hle, hocc⟩ | ⟨hlt, hocc⟩ <;> omega

/-- Settles O32: the residue by definition, the rest from occupancy without the modulus. -/
theorem ringOccupancyTests : Obligations.RingOccupancyTests := fun _ r =>
  ⟨Int.toNat_of_nonneg (Int.emod_nonneg _ (Int.natCast_ne_zero.mpr r.capacity_pos.ne')), r.occ_lt, r.occ_of_le,
    r.occ_of_lt, r.isFull_iff, r.isFull_iff_occ, r.isEmpty_iff_eq, r.occ_eq_zero_iff.symm⟩

theorem RingBuffer.contents_eq_nil_iff (r : RingBuffer N) : r.contents = [] ↔ r.isEmpty = true := by
  rw [← r.occ_eq_zero_iff, ← r.contents_length, List.length_eq_zero_iff]

/-- A list is a ring's contents if it is as long and gives the word of each place. -/
theorem RingBuffer.contents_ext (r : RingBuffer N) (ws : List Word) (hlen : r.occ = ws.length)
    (hget : ∀ k (h : k < ws.length), r.wordAt (r.position (r.popIdx.val + k)) = ws[k]) : r.contents = ws := by
  refine List.ext_getElem (by rw [r.contents_length, hlen]) fun k hk hk' => ?_
  rw [r.contents_getElem k hk, hget k hk']

theorem RingBuffer.push_occ (r : RingBuffer N) (v : Word) (h : r.isFull = false) :
    (r.push v).occ = r.occ + 1 := by
  have hfull := mt r.isFull_iff.mpr (Bool.eq_false_iff.mp h)
  have hpush := r.pushIdx.isLt
  have hpop := r.popIdx.isLt
  have hnew : (r.push v).pushIdx.val = (r.pushIdx.val + 1) % N := rfl
  have hafter := (r.push v).occ_cases
  rw [r.push_popIdx] at hafter
  rcases mod_cases (a := r.pushIdx.val + 1) (n := N) (by omega) with ⟨_, hmod⟩ | ⟨_, hmod⟩ <;>
    rcases r.occ_cases with ⟨hle, hocc⟩ | ⟨hlt, hocc⟩ <;>
    rcases hafter with ⟨hle', hocc'⟩ | ⟨hlt', hocc'⟩ <;> omega

@[simp] theorem RingBuffer.position_popIdx (r : RingBuffer N) : r.position r.popIdx.val = r.popIdx :=
  Fin.ext (Nat.mod_eq_of_lt r.popIdx.isLt)

/-- The place after the last queued word is the push position. -/
theorem RingBuffer.position_occ (r : RingBuffer N) : r.position (r.popIdx.val + r.occ) = r.pushIdx := by
  have hpush := r.pushIdx.isLt
  refine Fin.ext ?_
  rw [r.position_val]
  rcases r.occ_cases with ⟨hle, hocc⟩ | ⟨hlt, hocc⟩
  · rw [hocc, Nat.add_sub_cancel' hle, Nat.mod_eq_of_lt hpush]
  · rw [hocc, Nat.add_sub_cancel' (by omega), Nat.add_mod_right, Nat.mod_eq_of_lt hpush]

/-- Two places less than a capacity apart are two positions. -/
theorem RingBuffer.position_add_inj (r : RingBuffer N) {j k : Nat} (hj : j < N) (hk : k < N)
    (h : r.position (r.popIdx.val + j) = r.position (r.popIdx.val + k)) : j = k := by
  have hmod : (r.popIdx.val + j) % N = (r.popIdx.val + k) % N := congrArg Fin.val h
  exact Nat.ModEq.eq_of_lt_of_lt (Nat.ModEq.add_left_cancel' _ hmod) hj hk

/-- R66: a push that is not an overflow appends. -/
theorem RingBuffer.push_contents (r : RingBuffer N) (v : Word) (h : r.isFull = false) :
    (r.push v).contents = r.contents ++ [v] := by
  refine (r.push v).contents_ext _ (by simp [r.push_occ v h]) fun k hk => ?_
  have hocc := r.occ_lt
  rw [r.push_wordAt, r.push_popIdx, (r.push v).position_congr r, List.getElem_append]
  simp only [List.length_append, List.length_singleton, contents_length] at hk ⊢
  by_cases hlast : k = r.occ
  · simp [hlast, r.position_occ]
  · have hne : r.position (r.popIdx.val + k) ≠ r.pushIdx := by
      rw [← r.position_occ]
      exact mt (r.position_add_inj (by omega) hocc) hlast
    rw [if_neg hne, dif_pos (by omega), r.contents_getElem]

/-- R64: taking words that are there takes that many of the occupancy. -/
theorem RingBuffer.take_ring_occ (r : RingBuffer N) {k : Nat} (h : k ≤ r.occ) :
    (r.take k).ring.occ = r.occ - k := by
  have hpush := r.pushIdx.isLt
  have hpop := r.popIdx.isLt
  have hlt := r.occ_lt
  have hnew : (r.take k).ring.popIdx.val = (r.popIdx.val + k) % N := rfl
  have hkeep : (r.take k).ring.pushIdx = r.pushIdx := rfl
  rcases mod_cases (a := r.popIdx.val + k) (n := N) (by omega) with ⟨_, hmod⟩ | ⟨_, hmod⟩ <;>
    rcases r.occ_cases with ⟨hle, hocc⟩ | ⟨hlt, hocc⟩ <;>
    rcases (r.take k).ring.occ_cases with ⟨hle', hocc'⟩ | ⟨hlt', hocc'⟩ <;>
    rw [hkeep] at hocc' <;> omega

theorem RingBuffer.take_words (r : RingBuffer N) {k : Nat} (h : k ≤ r.occ) :
    (r.take k).words = r.contents.take k := by
  simp [RingBuffer.contents, RingBuffer.take, ← List.map_take, List.take_range, Nat.min_eq_left h]

theorem RingBuffer.take_ring_contents (r : RingBuffer N) {k : Nat} (h : k ≤ r.occ) :
    (r.take k).ring.contents = r.contents.drop k := by
  refine (r.take k).ring.contents_ext _ ?_ fun j hj => ?_
  · rw [r.take_ring_occ h, List.length_drop, contents_length]
  · rw [List.getElem_drop, r.contents_getElem]
    change r.wordAt (r.position ((r.popIdx.val + k) % N + j)) = _
    congr 1
    exact Fin.ext (by simp [Nat.add_assoc])

/-- A pop of a ring that is not empty takes one word. -/
theorem RingBuffer.pop_ring_eq_take (r : RingBuffer N) (h : r.isEmpty = false) : r.pop.ring = (r.take 1).ring :=
  r.pop_ring_of_nonempty h

theorem RingBuffer.occ_pos (r : RingBuffer N) (h : r.isEmpty = false) : 1 ≤ r.occ :=
  Nat.one_le_iff_ne_zero.mpr (mt r.occ_eq_zero_iff.mp (Bool.eq_false_iff.mp h))

/-- R67: the oldest word is the one a pop returns, and the others stay queued. -/
theorem RingBuffer.contents_of_nonempty (r : RingBuffer N) (h : r.isEmpty = false) :
    r.contents = r.pop.word :: r.pop.ring.contents := by
  rw [r.pop_ring_eq_take h, r.take_ring_contents (r.occ_pos h)]
  have hfirst : r.contents.take 1 = [r.pop.word] := by
    rw [← r.take_words (r.occ_pos h)]
    simp [RingBuffer.take, RingBuffer.peek]
  rw [← List.singleton_append, ← hfirst, List.take_append_drop]

@[simp] theorem RingBuffer.clear_contents (r : RingBuffer N) : r.clear.contents = [] :=
  List.length_eq_zero_iff.mp (by rw [contents_length, clear_occ])

/-- Settles O36: the law of each primitive on the contents. -/
theorem ringKeepsOrder : Obligations.RingKeepsOrder := fun _ r =>
  ⟨r.push_contents, r.contents_of_nonempty, r.pop_ring_of_empty,
    fun _ hk => ⟨r.take_words hk, r.take_ring_contents hk⟩, r.clear_contents⟩

theorem RingBuffer.isEmpty_eq_false_of_occ (r : RingBuffer N) (h : 1 ≤ r.occ) : r.isEmpty = false :=
  Bool.eq_false_iff.mpr fun hempty => absurd (r.occ_eq_zero_iff.mpr hempty) (by omega)

theorem RingBuffer.le_pop_ring_occ (r : RingBuffer N) {k : Nat} (h : k + 1 ≤ r.occ) : k ≤ r.pop.ring.occ := by
  have hne := r.isEmpty_eq_false_of_occ (Nat.le_of_add_left_le h)
  rw [r.pop_ring_eq_take hne, r.take_ring_occ (r.occ_pos hne)]
  omega

/-- Taking one word more is a pop and then taking the others. -/
theorem RingBuffer.take_succ (r : RingBuffer N) {k : Nat} (h : k + 1 ≤ r.occ) :
    r.take (k + 1) = ⟨r.pop.word :: (r.pop.ring.take k).words, (r.pop.ring.take k).ring⟩ := by
  have hne := r.isEmpty_eq_false_of_occ (Nat.le_of_add_left_le h)
  have hwords : (r.take (k + 1)).words = r.pop.word :: (r.pop.ring.take k).words := by
    rw [r.take_words h, r.contents_of_nonempty hne, List.take_succ_cons,
      r.pop.ring.take_words (r.le_pop_ring_occ h)]
  have hpos : r.position (r.popIdx.val + (k + 1)) = r.position ((r.popIdx.val + 1) % N + k) :=
    Fin.ext (by simp only [position_val, Nat.mod_add_mod, Nat.add_assoc, Nat.add_comm k])
  have hring : (r.take (k + 1)).ring = (r.pop.ring.take k).ring := by
    rw [r.take_ring, hpos, r.pop_ring_of_nonempty hne]
    rfl
  exact congrArg₂ Taken.mk hwords hring

/-- R64: pops of words that are there are one take. -/
theorem RingBuffer.popMany_eq_take (r : RingBuffer N) (k : Nat) (h : k ≤ r.occ) :
    r.popMany k = ⟨(r.take k).words, List.replicate k false, (r.take k).ring⟩ := by
  induction k generalizing r with
  | zero =>
    simp [RingBuffer.popMany, RingBuffer.take]
  | succ k ih =>
    have hne := r.isEmpty_eq_false_of_occ (Nat.le_of_add_left_le h)
    rw [RingBuffer.popMany, ih r.pop.ring (r.le_pop_ring_occ h), r.take_succ h, r.pop_wasEmpty, hne,
      List.replicate_succ]

theorem RingBuffer.take_words_getElem? (r : RingBuffer N) {i k : Nat} (h : i < k) :
    (r.take k).words[i]? = some (r.wordAt (r.position (r.popIdx.val + i))) := by
  simp [RingBuffer.take, h]

/-- Settles O34: `take` place by place, and pop by pop. -/
theorem ringTakeIsRepeatedPop : Obligations.RingTakeIsRepeatedPop := fun _ r k hk =>
  ⟨r.take_words_length k, fun _ _ hi => r.take_words_getElem? hi, rfl, rfl, rfl, r.popMany_eq_take k hk⟩

end Sys2Proof.Machine
end

section
/-! The Transmit Pipeline refines two plain queues: one round of its loop is one record drained (R112, R114),
and so is a run; and the obligations on it. -/

namespace Sys2Proof.Machine

/-- Settles O38: the bounds of the ceiling, and the top length by evaluation. -/
theorem wordCountIsExactCeiling : Obligations.WordCountIsExactCeiling := by
  refine ⟨fun len => ⟨(wordCount_bounds len).1, fun k hk => ?_⟩, rfl⟩
  have hceiling := wordCount_bounds len
  omega

theorem headReady_iff (s : State) :
    headReady s = true ↔ s.txl.isEmpty = false ∧ wordCount s.txl.peek ≤ s.txd.contents.length := by
  simp [headReady]

/-- A round of the loop is the head record drained. -/
theorem drainQueues_of_headReady (p : Config.Params) {s : State} (h : headReady s = true) :
    drainQueues p.frameByteOrder s.txl.contents s.txd.contents =
      ⟨assembleFrame p.frameByteOrder (s.txd.take (wordCount s.txl.peek)).words s.txl.peek ::
          (drainQueues p.frameByteOrder (sendHead p s).txl.contents (sendHead p s).txd.contents).frames,
        (drainQueues p.frameByteOrder (sendHead p s).txl.contents (sendHead p s).txd.contents).left⟩ := by
  obtain ⟨hne, hwords⟩ := (headReady_iff s).mp h
  have hocc : wordCount s.txl.peek ≤ s.txd.occ := s.txd.contents_length ▸ hwords
  rw [s.txl.contents_of_nonempty hne, drainQueues, s.txl.pop_word, if_neg (Nat.not_lt.mpr hwords),
    ← s.txd.take_words hocc, ← s.txd.take_ring_contents hocc]
  rfl

/-- The loop stops where draining does: without a record, or at one that stalls. -/
theorem drainQueues_of_not_headReady (order : Config.FrameByteOrder) {s : State} (h : headReady s = false) :
    drainQueues order s.txl.contents s.txd.contents = ⟨[], txQueues s⟩ := by
  rw [txQueues]
  cases hempty : s.txl.isEmpty with
  | true => rw [s.txl.contents_eq_nil_iff.mpr hempty, drainQueues]
  | false =>
    have hstall : s.txd.contents.length < wordCount s.txl.peek :=
      Nat.not_le.mp fun hle => Bool.eq_false_iff.mp h ((headReady_iff s).mpr ⟨hempty, hle⟩)
    rw [s.txl.contents_of_nonempty hempty, drainQueues, s.txl.pop_word, if_pos hstall]

theorem sendHead_txl_occ (p : Config.Params) {s : State} (h : headReady s = true) :
    (sendHead p s).txl.occ = s.txl.occ - 1 := by
  obtain ⟨hne, _⟩ := (headReady_iff s).mp h
  change s.txl.pop.ring.occ = s.txl.occ - 1
  rw [s.txl.pop_ring_eq_take hne, s.txl.take_ring_occ (s.txl.occ_pos hne)]

/-- With a round for each record, the loop drains the queues and sends their frames. -/
theorem drainFrames_refines (p : Config.Params) (fuel : Nat) (s : State) (hfuel : s.txl.occ ≤ fuel) :
    txQueues (drainFrames p fuel s) = (drainQueues p.frameByteOrder s.txl.contents s.txd.contents).left ∧
    (drainFrames p fuel s).events =
      s.events ++ (drainQueues p.frameByteOrder s.txl.contents s.txd.contents).frames.map Event.send := by
  induction fuel generalizing s with
  | zero =>
    have hempty := s.txl.occ_eq_zero_iff.mp (Nat.le_zero.mp hfuel)
    have hnot : headReady s = false := by simp [headReady, hempty]
    rw [drainQueues_of_not_headReady _ hnot]
    simp [drainFrames]
  | succ fuel ih =>
    cases hready : headReady s with
    | true =>
      obtain ⟨hleft, hevents⟩ := ih (sendHead p s) (by rw [sendHead_txl_occ p hready]; omega)
      rw [drainQueues_of_headReady p hready, drainFrames, if_pos hready, hleft, hevents]
      simp [sendHead]
    | false =>
      rw [drainQueues_of_not_headReady _ hready, drainFrames, hready]
      simp

/-- A run of the pipeline drains the queues and sends their frames (R112). -/
theorem txPipeline_refines (p : Config.Params) (s : State) :
    txQueues (txPipeline p s) = (drainQueues p.frameByteOrder s.txl.contents s.txd.contents).left ∧
    (txPipeline p s).events =
      s.events ++ (drainQueues p.frameByteOrder s.txl.contents s.txd.contents).frames.map Event.send := by
  rw [← (drainFrames_refines p s.txl.occ s le_rfl).1, ← (drainFrames_refines p s.txl.occ s le_rfl).2]
  simp only [txPipeline]
  split <;> exact ⟨rfl, rfl⟩

/-- Settles O39: the queues from the refinement, every other field from what a run can do. -/
theorem pipelineDrainsQueues : Obligations.PipelineDrainsQueues := by
  rintro p s d rfl
  obtain ⟨hqueues, hevents⟩ := txPipeline_refines p s
  refine ⟨hqueues, ?_⟩
  rw [← hqueues, ← hevents]
  obtain ⟨a, b, frames, hrun⟩ := txPipeline_frame p s
  have hempty : (txQueues (txPipeline p s)).lens = [] ↔ s.txl.pushIdx = a := by
    rw [txQueues, RingBuffer.contents_eq_nil_iff, RingBuffer.isEmpty_iff_eq, hrun]
  simp only [hempty]
  rw [hrun]

end Sys2Proof.Machine
end

section
/-! Everything an instruction can do to the device before its one reply, said once: which accesses leave every
register and ring, which emit the diagnostic of an undefined slot, and what each of the others does. -/

namespace Sys2Proof.Machine

open Sys2Proof.Laws

/-- The accesses that can change a register or a ring. -/
def mayChangeState (i : Instr) : Bool :=
  match i with
  | .rdFifoRxData | .rdFifoRxLength => true
  | .wrHostMdioCtrl _ | .wrHostMdioData _ | .wrHostIrqMask _ | .wrHostIrqFlags _ | .wrHostVlanMask _ => true
  | .wrFifoIntStatus _ | .wrFifoIntEnable _ | .wrFifoTxReset _ | .wrFifoTxData _ | .wrFifoTxLength _
  | .wrFifoRxReset _ => true
  | _ => false

/-- What a pipeline run leaves: the TX pop indices it reached, the frames it sent, and `M_TC` if the length
ring is then empty (`txPipeline_eq_afterRun`). -/
def State.afterRun (s : State) (a : Fin 16) (b : Fin 512) (frames : List (List Byte)) : State :=
  { s with
    txl := { s.txl with popIdx := a }
    txd := { s.txd with popIdx := b }
    events := s.events ++ frames.map Event.send
    fifoStatus := if s.txl.pushIdx = a then s.fifoStatus ||| mTc cfg else s.fifoStatus }

theorem txPipeline_eq_afterRun (s : State) : ∃ a b frames, txPipeline cfg s = s.afterRun a b frames :=
  txPipeline_frame cfg s

/-- Instruction `i`, run in `s`, takes it to `u` and is then answered `r`. -/
inductive Acts (s : State) : Instr → State → Reply → Prop
  | plain {i : Instr} {r : Reply} (hkeeps : mayChangeState i = false) (hdefined : touchesUndefined i = false) :
    Acts s i s r
  | undefined {i : Instr} {bank : Bank} (hkeeps : mayChangeState i = false) (hundefined : touchesUndefined i = true)
    (hbank : bankOf i = some bank) :
    Acts s i (s.diagnoseUnknown bank (slotOf i) (dirOf i)) (if isRead i then .value 0 else .nothing)
  | mdioCtrl (v : Word) :
    Acts s (.wrHostMdioCtrl v)
      { s with
        mdioCtrl := mdioCtrlOperand v
        mdioData := if v.getLsbD 10 then mdioPlaceholder else s.mdioData
        hostFlags := s.hostFlags ||| 1#2 } .nothing
  | mdioData (v : Word) : Acts s (.wrHostMdioData v) { s with mdioData := mdioDataOperand v } .nothing
  | irqMask (v : Word) : Acts s (.wrHostIrqMask v) { s with hostMask := hostMaskOperand v } .nothing
  | irqFlags (v : Word) :
    Acts s (.wrHostIrqFlags v) { s with hostFlags := w1c s.hostFlags (hostClearOperand v) } .nothing
  | vlanMask (v : Word) :
    Acts s (.wrHostVlanMask v) { s with vlanMask := if cfg.vlanWriteStores then v else s.vlanMask } .nothing
  | intStatus (v : Word) :
    Acts s (.wrFifoIntStatus v) { s with fifoStatus := w1c s.fifoStatus (fifoBitsOperand cfg v) } .nothing
  | intEnable (v : Word) : Acts s (.wrFifoIntEnable v) { s with fifoEnable := fifoBitsOperand cfg v } .nothing
  | txResetMagic :
    Acts s (.wrFifoTxReset 0xA5#32) { s.clearTx with shadow2 := shadowAfter cfg s.shadow2 0xA5#32 } .nothing
  | txResetOther (v : Word) (hv : v ≠ 0xA5#32) :
    Acts s (.wrFifoTxReset v) { s with shadow2 := shadowAfter cfg s.shadow2 v } .nothing
  | txDataOverflow (v : Word) (hfull : s.txl.isFull = true ∨ s.txd.isFull = true) :
    Acts s (.wrFifoTxData v) (s.raise (mTpoe cfg)) .nothing
  | txDataPushed (v : Word) (hlens : s.txl.isFull = false) (hwords : s.txd.isFull = false) :
    Acts s (.wrFifoTxData v) { s with txd := s.txd.push v } .nothing
  | txLengthOverflow (v : Word) (hfull : s.txl.isFull = true) :
    Acts s (.wrFifoTxLength v) { s.raise (mTpoe cfg) with shadow5 := shadowAfter cfg s.shadow5 v } .nothing
  | txLengthAccepted (v : Word) {a : Fin 16} {b : Fin 512} {frames : List (List Byte)}
    (hroom : s.txl.isFull = false)
    (hrun : txPipeline cfg { s with txl := s.txl.push v } =
      { s with txl := s.txl.push v : State }.afterRun a b frames) :
    Acts s (.wrFifoTxLength v)
      { { s with txl := s.txl.push v : State }.afterRun a b frames with shadow5 := shadowAfter cfg s.shadow5 v }
      .nothing
  | rxResetMagic :
    Acts s (.wrFifoRxReset 0xA5#32) { s.clearRx with shadow6 := shadowAfter cfg s.shadow6 0xA5#32 } .nothing
  | rxResetOther (v : Word) (hv : v ≠ 0xA5#32) :
    Acts s (.wrFifoRxReset v) { s with shadow6 := shadowAfter cfg s.shadow6 v } .nothing
  | rxDataUnderflow (hempty : s.rxd.isEmpty = true) :
    Acts s .rdFifoRxData (s.raise (mRpure cfg)) (.value s.rxd.peek)
  | rxDataPopped (hne : s.rxd.isEmpty = false) :
    Acts s .rdFifoRxData { s with rxd := { s.rxd with popIdx := s.rxd.position (s.rxd.popIdx.val + 1) } }
      (.value s.rxd.peek)
  | rxLengthUnderflow (hempty : s.rxl.isEmpty = true) :
    Acts s .rdFifoRxLength (s.raise (mRpure cfg)) (.value s.rxl.peek)
  | rxLengthPopped (hne : s.rxl.isEmpty = false) :
    Acts s .rdFifoRxLength { s with rxl := { s.rxl with popIdx := s.rxl.position (s.rxl.popIdx.val + 1) } }
      (.value s.rxl.peek)

/-- A meaning answers a next state that its instruction acts to. -/
def ActsTo (i : Instr) (s : State) (result : Result) : Prop :=
  ∃ (u : State) (r : Reply), Acts s i u r ∧ result = .next (u.reply r)

theorem actsTo_of_readUnknown {i : Instr} {bank : Bank} {slot : Fin 16} (s : State)
    (hkeeps : mayChangeState i = false)
    (haccess : bankOf i = some bank ∧ slotOf i = slot ∧ isRead i = true ∧ touchesUndefined i = true) :
    ActsTo i s (readUnknown bank slot s) := by
  obtain ⟨hbank, rfl, hread, hundefined⟩ := haccess
  exact ⟨_, _, .undefined hkeeps hundefined hbank, by simp [dirOf, hread]⟩

theorem actsTo_of_writeUnknown {i : Instr} {bank : Bank} {slot : Fin 16} (v : Word) (s : State)
    (hkeeps : mayChangeState i = false)
    (haccess : bankOf i = some bank ∧ slotOf i = slot ∧ isRead i = false ∧ touchesUndefined i = true) :
    ActsTo i s (writeUnknown bank slot v s) := by
  obtain ⟨hbank, rfl, hread, hundefined⟩ := haccess
  exact ⟨_, _, .undefined hkeeps hundefined hbank, by simp [dirOf, hread]⟩

theorem actsTo_wrFifoTxReset (v : Word) (s : State) : ActsTo (.wrFifoTxReset v) s (execWrFifoTxReset v s) := by
  by_cases hv : v = 0xA5#32
  · subst hv
    exact ⟨_, _, .txResetMagic, rfl⟩
  · refine ⟨_, _, .txResetOther v hv, ?_⟩
    simp [execWrFifoTxReset, isResetMagic, resetMagic, hv]

theorem actsTo_wrFifoRxReset (v : Word) (s : State) : ActsTo (.wrFifoRxReset v) s (execWrFifoRxReset v s) := by
  by_cases hv : v = 0xA5#32
  · subst hv
    exact ⟨_, _, .rxResetMagic, rfl⟩
  · refine ⟨_, _, .rxResetOther v hv, ?_⟩
    simp [execWrFifoRxReset, isResetMagic, resetMagic, hv]

theorem actsTo_wrFifoTxData (v : Word) (s : State) : ActsTo (.wrFifoTxData v) s (execWrFifoTxData v s) := by
  rcases writeTxData_cases cfg v s with ⟨hfull, h⟩ | ⟨hlens, hwords, h⟩ <;> rw [execWrFifoTxData, h]
  · exact ⟨_, _, .txDataOverflow v hfull, rfl⟩
  · exact ⟨_, _, .txDataPushed v hlens hwords, rfl⟩

theorem actsTo_wrFifoTxLength (v : Word) (s : State) :
    ActsTo (.wrFifoTxLength v) s (execWrFifoTxLength v s) := by
  rw [execWrFifoTxLength, writeTxLength, queueTxLength]
  cases hfull : s.txl.isFull with
  | true => exact ⟨_, _, .txLengthOverflow v hfull, rfl⟩
  | false =>
    obtain ⟨a, b, frames, hrun⟩ := txPipeline_eq_afterRun { s with txl := s.txl.push v }
    exact ⟨_, _, .txLengthAccepted v hfull hrun, by simp [hrun]⟩

theorem actsTo_rdFifoRxData (s : State) : ActsTo .rdFifoRxData s (execRdFifoRxData s) := by
  rcases popRxData_cases cfg s with ⟨hempty, h⟩ | ⟨hne, h⟩ <;> rw [execRdFifoRxData, h]
  · exact ⟨_, _, .rxDataUnderflow hempty, rfl⟩
  · exact ⟨_, _, .rxDataPopped hne, rfl⟩

theorem actsTo_rdFifoRxLength (s : State) : ActsTo .rdFifoRxLength s (execRdFifoRxLength s) := by
  rcases popRxLength_cases cfg s with ⟨hempty, h⟩ | ⟨hne, h⟩ <;> rw [execRdFifoRxLength, h]
  · exact ⟨_, _, .rxLengthUnderflow hempty, rfl⟩
  · exact ⟨_, _, .rxLengthPopped hne, rfl⟩

/-- Every instruction acts so: an undefined slot, an access that changes nothing, or one of thirteen more. -/
theorem exec_actsTo (i : Instr) (s : State) : ActsTo i s (exec i s) := by
  cases i with
  | rdHostUnk5 | rdHostUnk6 | rdHostUnk7 | rdHostUnk8 | rdHostUnk9 | rdHostUnk10 | rdHostUnk11 | rdHostUnk12
  | rdHostUnk13 | rdHostUnk14
  | rdMacUnk0 | rdMacUnk3 | rdMacUnk6 | rdMacUnk7 | rdMacUnk8 | rdMacUnk9 | rdMacUnk10 | rdMacUnk11
  | rdMacUnk12 | rdMacUnk13 | rdMacUnk14 | rdMacUnk15
  | rdFifoUnk10 | rdFifoUnk11 | rdFifoUnk12 | rdFifoUnk13 | rdFifoUnk14 | rdFifoUnk15 =>
    exact actsTo_of_readUnknown s rfl (by simp)
  | wrHostUnk5 v | wrHostUnk6 v | wrHostUnk7 v | wrHostUnk8 v | wrHostUnk9 v | wrHostUnk10 v | wrHostUnk11 v
  | wrHostUnk12 v | wrHostUnk13 v | wrHostUnk14 v
  | wrMacUnk0 v | wrMacUnk3 v | wrMacUnk6 v | wrMacUnk7 v | wrMacUnk8 v | wrMacUnk9 v | wrMacUnk10 v
  | wrMacUnk11 v | wrMacUnk12 v | wrMacUnk13 v | wrMacUnk14 v | wrMacUnk15 v
  | wrFifoUnk10 v | wrFifoUnk11 v | wrFifoUnk12 v | wrFifoUnk13 v | wrFifoUnk14 v | wrFifoUnk15 v =>
    exact actsTo_of_writeUnknown v s rfl (by simp)
  | wrHostMdioCtrl v => exact ⟨_, _, .mdioCtrl v, rfl⟩
  | wrHostMdioData v => exact ⟨_, _, .mdioData v, rfl⟩
  | wrHostIrqMask v => exact ⟨_, _, .irqMask v, rfl⟩
  | wrHostIrqFlags v => exact ⟨_, _, .irqFlags v, rfl⟩
  | wrHostVlanMask v => exact ⟨_, _, .vlanMask v, rfl⟩
  | wrFifoIntStatus v => exact ⟨_, _, .intStatus v, rfl⟩
  | wrFifoIntEnable v => exact ⟨_, _, .intEnable v, rfl⟩
  | wrFifoTxReset v => exact actsTo_wrFifoTxReset v s
  | wrFifoTxData v => exact actsTo_wrFifoTxData v s
  | wrFifoTxLength v => exact actsTo_wrFifoTxLength v s
  | wrFifoRxReset v => exact actsTo_wrFifoRxReset v s
  | rdFifoRxData => exact actsTo_rdFifoRxData s
  | rdFifoRxLength => exact actsTo_rdFifoRxLength s
  | _ => exact ⟨s, _, .plain rfl (by simp), rfl⟩

/-- The inversion of an instruction that has answered `t`. -/
theorem acts_of_exec {i : Instr} {s t : State} (h : exec i s = .next t) :
    ∃ u r, Acts s i u r ∧ t = u.reply r := by
  obtain ⟨u, r, hacts, hexec⟩ := exec_actsTo i s
  exact ⟨u, r, hacts, Host.Outcome.next.inj (h.symm.trans hexec)⟩

end Sys2Proof.Machine
end

section
/-! The transmit path: every instruction acts on the TX rings as on two plain queues (R26, R94, R98, R100,
R111), a record whose words cannot fit blocks them (R114), and the obligations on the path. -/

namespace Sys2Proof.Machine

open Sys2Proof.Laws

@[simp] theorem sentFrames_append (es fs : List Event) : sentFrames (es ++ fs) = sentFrames es ++ sentFrames fs :=
  List.filterMap_append

@[simp] theorem sentFrames_map_send (frames : List (List Byte)) : sentFrames (frames.map Event.send) = frames := by
  simp [sentFrames, List.filterMap_map]

theorem lens_length_eq_iff (s : State) : (txQueues s).lens.length = 15 ↔ s.txl.isFull = true := by
  rw [txQueues, RingBuffer.contents_length, RingBuffer.isFull_iff_occ]

theorem words_length_eq_iff (s : State) : (txQueues s).words.length = 511 ↔ s.txd.isFull = true := by
  rw [txQueues, RingBuffer.contents_length, RingBuffer.isFull_iff_occ]

theorem words_length_le (s : State) : (txQueues s).words.length ≤ 511 := by
  rw [txQueues, RingBuffer.contents_length]
  exact Nat.le_of_lt_succ s.txd.occ_lt

/-- An access that changes no ring changes neither queue. -/
theorem TxQueues.after_of_keeps (p : Config.Params) (q : TxQueues) {i : Instr} (h : mayChangeState i = false) :
    q.after p i = q := by
  unfold TxQueues.after
  split
  · exact nomatch h
  · exact nomatch h
  · exact nomatch h
  · rfl

theorem TxQueues.framesOf_of_keeps (p : Config.Params) (q : TxQueues) {i : Instr}
    (h : mayChangeState i = false) : q.framesOf p i = [] := by
  unfold TxQueues.framesOf
  split
  · exact nomatch h
  · rfl

/-- What an instruction does to the TX rings and the events, on the queues. -/
theorem Acts.refines {i : Instr} {s u : State} {r : Reply} (h : Acts s i u r) :
    txQueues u = (txQueues s).after cfg i ∧
    sentFrames u.events = sentFrames s.events ++ (txQueues s).framesOf cfg i := by
  cases h with
  | plain hkeeps =>
    rw [TxQueues.after_of_keeps cfg _ hkeeps, TxQueues.framesOf_of_keeps cfg _ hkeeps, List.append_nil]
    exact ⟨rfl, rfl⟩
  | undefined hkeeps =>
    rw [TxQueues.after_of_keeps cfg _ hkeeps, TxQueues.framesOf_of_keeps cfg _ hkeeps]
    exact ⟨rfl, sentFrames_append _ _⟩
  | mdioCtrl | mdioData | irqMask | irqFlags | vlanMask | intStatus | intEnable | rxResetMagic | rxResetOther
  | rxDataUnderflow | rxDataPopped | rxLengthUnderflow | rxLengthPopped =>
    exact ⟨rfl, (List.append_nil _).symm⟩
  | txResetMagic =>
    exact ⟨congrArg₂ TxQueues.mk s.txl.clear_contents s.txd.clear_contents, (List.append_nil _).symm⟩
  | txResetOther v hv =>
    rw [TxQueues.after, if_neg hv]
    exact ⟨rfl, (List.append_nil _).symm⟩
  | txDataOverflow v hfull =>
    rw [← lens_length_eq_iff, ← words_length_eq_iff] at hfull
    rw [TxQueues.after, if_pos hfull]
    exact ⟨rfl, (List.append_nil _).symm⟩
  | txDataPushed v hlens hwords =>
    have hroom : ¬ ((txQueues s).lens.length = 15 ∨ (txQueues s).words.length = 511) := by
      simp [lens_length_eq_iff, words_length_eq_iff, hlens, hwords]
    rw [TxQueues.after, if_neg hroom]
    exact ⟨congrArg (TxQueues.mk _) (s.txd.push_contents v hwords), (List.append_nil _).symm⟩
  | txLengthOverflow v hfull =>
    rw [TxQueues.after, TxQueues.framesOf, if_pos ((lens_length_eq_iff s).mpr hfull),
      if_pos ((lens_length_eq_iff s).mpr hfull)]
    exact ⟨rfl, (List.append_nil _).symm⟩
  | txLengthAccepted v hroom hrun =>
    have hnot : ¬ (txQueues s).lens.length = 15 := by simp [lens_length_eq_iff, hroom]
    obtain ⟨hqueues, hevents⟩ := txPipeline_refines cfg { s with txl := s.txl.push v }
    rw [s.txl.push_contents v hroom, hrun] at hqueues hevents
    rw [TxQueues.after, TxQueues.framesOf, if_neg hnot, if_neg hnot]
    refine ⟨hqueues, (congrArg sentFrames hevents).trans ?_⟩
    rw [sentFrames_append, sentFrames_map_send]
    rfl

/-- Settles O40: the queues before the reply, which is no event and touches no ring. -/
theorem transmitPathRefinesQueues : Obligations.TransmitPathRefinesQueues := by
  intro i s
  obtain ⟨u, r, hacts, hexec⟩ := exec_actsTo i s
  exact ⟨u.reply r, hexec, hacts.refines⟩

/-- A head record whose words are not there is not drained, whatever stands behind it (R114). -/
theorem drainQueues_of_stalled (order : Config.FrameByteOrder) {len : Word} (rest words : List Word)
    (h : words.length < wordCount len) :
    drainQueues order (len :: rest) words = ⟨[], ⟨len :: rest, words⟩⟩ := by
  rw [drainQueues, if_pos h]

/-- Behind a stalled record everything queues up, until TXRESET. -/
theorem TxQueues.blocked (p : Config.Params) (q : TxQueues) {len : Word} {rest : List Word}
    (hlens : q.lens = len :: rest) (hstall : q.words.length < wordCount len) {i : Instr}
    (hreset : i ≠ .wrFifoTxReset 0xA5#32) :
    (∃ more, (q.after p i).lens = len :: rest ++ more) ∧ q.framesOf p i = [] := by
  have hsame : q.lens = len :: rest ++ [] := by rw [hlens, List.append_nil]
  have hdrain (v : Word) : drainQueues p.frameByteOrder (q.lens ++ [v]) q.words =
      ⟨[], ⟨len :: rest ++ [v], q.words⟩⟩ := by
    rw [hlens]
    exact drainQueues_of_stalled _ _ _ hstall
  constructor
  · unfold TxQueues.after
    split
    · split <;> exact ⟨[], hsame⟩
    · split
      · exact ⟨[], hsame⟩
      · rw [hdrain]
        exact ⟨_, rfl⟩
    · rw [if_neg fun hv => hreset (congrArg _ hv)]
      exact ⟨[], hsame⟩
    · exact ⟨[], hsame⟩
  · unfold TxQueues.framesOf
    split
    · rw [hdrain]
      exact ite_self _
    · rfl

theorem exec_inbox {i : Instr} {s t : State} (h : exec i s = .next t) : t.inbox = s.inbox := by
  obtain ⟨t', r, es, hexec, _, _, hinbox⟩ := everyInstructionCompletes.1 i s
  obtain rfl := Host.Outcome.next.inj (h.symm.trans hexec)
  exact hinbox

/-- A record above 2044 bytes asks for more words than the TX data ring can hold (R114). -/
theorem words_length_lt_wordCount (s : State) {len : Word} (h : 2044 < len.toNat) :
    (txQueues s).words.length < wordCount len := by
  have hwords := words_length_le s
  have hceiling := wordCount_bounds len
  omega

/-- A step that takes no TXRESET leaves an oversized head record where it is and sends nothing. -/
theorem step_of_oversized {s t : State} {len : Word} {rest : List Word} (hlens : s.txl.contents = len :: rest)
    (hlong : 2044 < len.toNat)
    (hreset : ∀ r ∈ s.inbox.take 1, decodeRequest cfg.base r ≠ .ok (.wrFifoTxReset 0xA5#32))
    (hstep : step s = .next t) :
    t.inbox = s.inbox.drop 1 ∧ sentFrames t.events = sentFrames s.events ∧
      ∃ more, t.txl.contents = len :: (rest ++ more) := by
  rcases step_cases s with ⟨hinbox, hidle⟩ | ⟨r, tail, why, _, _, href⟩ | ⟨r, tail, i, hinbox, hdecode, hexec⟩
  · obtain rfl := Host.Outcome.next.inj (hidle.symm.trans hstep)
    exact ⟨by rw [hinbox]; rfl, rfl, [], by rw [hlens, List.append_nil]⟩
  · exact nomatch href.symm.trans hstep
  · have hi : i ≠ .wrFifoTxReset 0xA5#32 := by
      rintro rfl
      exact hreset r (by simp [hinbox]) hdecode
    obtain ⟨t', hnext, hqueues, hsent⟩ := transmitPathRefinesQueues i { s with inbox := tail }
    obtain rfl := Host.Outcome.next.inj (hstep.symm.trans (hexec.trans hnext))
    obtain ⟨⟨more, hmore⟩, hnone⟩ := TxQueues.blocked cfg (txQueues { s with inbox := tail }) hlens
      (words_length_lt_wordCount _ hlong) hi
    refine ⟨by rw [exec_inbox hnext, hinbox]; rfl, by rw [hsent, hnone, List.append_nil], more, ?_⟩
    exact (congrArg TxQueues.lens hqueues).trans hmore

/-- Settles O58: one step at a time, the records behind the head growing. -/
theorem oversizedRecordBlocks : Obligations.OversizedRecordBlocks := by
  intro n
  induction n with
  | zero =>
    intro s t len rest hlens _ _ hrun
    obtain rfl : s = t := Host.Outcome.next.inj hrun
    exact ⟨rfl, [], by rw [hlens, List.append_nil]⟩
  | succ n ih =>
    intro s t len rest hlens hlong hreset hrun
    obtain ⟨u, hstep, hrun⟩ := (core_run_succ_eq_next n s t).mp hrun
    obtain ⟨hinbox, hsent, more, hmore⟩ := step_of_oversized hlens hlong
      (fun r hr => hreset r (List.take_subset_take_left _ (Nat.succ_le_succ n.zero_le) hr)) hstep
    have hlater : ∀ r ∈ u.inbox.take n, decodeRequest cfg.base r ≠ .ok (.wrFifoTxReset 0xA5#32) := by
      intro r hr
      rw [hinbox] at hr
      exact hreset r (List.mem_of_mem_drop (i := 1) (by rwa [List.drop_take]))
    obtain ⟨hsent', more', hmore'⟩ := ih u t len (rest ++ more) hmore hlong hlater hrun
    exact ⟨hsent'.trans hsent, more ++ more', by rw [hmore']; simp⟩

theorem step_of_nothing_presented {s : State} (h : s.inbox = []) : step s = .next s := by
  simp only [step, fetch, h]

theorem exec_wrFifoTxLength_of_room (v : Word) {s : State} (h : s.txl.isFull = false) :
    exec (.wrFifoTxLength v) s = .next
      { txPipeline cfg { s with txl := s.txl.push v } with
        shadow5 := if cfg.shadowTracksWrites then v else s.shadow5
        replies := s.replies ++ [.nothing] } := by
  rw [exec_wrFifoTxLength, queueTxLength, h]
  rfl

theorem mTpoe_bitTc : (mTpoe cfg).getLsbD cfg.bitTc.val = false := by
  rw [mTpoe_getLsbD, decide_eq_false_iff_not, ← Fin.ext_iff]
  exact cfg.bits_distinct.2.2.symm

theorem mRpure_bitTc : (mRpure cfg).getLsbD cfg.bitTc.val = false := by
  rw [mRpure_getLsbD, decide_eq_false_iff_not, ← Fin.ext_iff]
  exact cfg.bits_distinct.2.1.symm

theorem getLsbD_of_or {n : Nat} {status m : BitVec n} {k : Nat} (hm : m.getLsbD k = false)
    (h : (status ||| m).getLsbD k = true) : status.getLsbD k = true := by
  rwa [BitVec.getLsbD_or, hm, Bool.or_false] at h

theorem getLsbD_of_w1c {n : Nat} {status clear : BitVec n} {k : Nat} (h : (w1c status clear).getLsbD k = true) :
    status.getLsbD k = true := by
  rw [w1c, BitVec.getLsbD_and, Bool.and_eq_true] at h
  exact h.1

/-- R111: but for an accepted length write, no instruction sends a frame or sets `M_TC`. -/
theorem Acts.lengthWrite_or_quiet {i : Instr} {s u : State} {r : Reply} (h : Acts s i u r) :
    (∃ v, i = .wrFifoTxLength v ∧ s.txl.isFull = false) ∨
      (sentFrames u.events = sentFrames s.events ∧
        (u.fifoStatus.getLsbD cfg.bitTc.val = true → s.fifoStatus.getLsbD cfg.bitTc.val = true)) := by
  cases h with
  | txLengthAccepted v hroom => exact .inl ⟨v, rfl, hroom⟩
  | plain | mdioCtrl | mdioData | irqMask | irqFlags | vlanMask | intEnable | txResetMagic | txResetOther
  | txDataPushed | rxResetMagic | rxResetOther | rxDataPopped | rxLengthPopped => exact .inr ⟨rfl, id⟩
  | undefined => exact .inr ⟨(sentFrames_append _ _).trans (List.append_nil _), id⟩
  | intStatus => exact .inr ⟨rfl, getLsbD_of_w1c⟩
  | txDataOverflow | txLengthOverflow => exact .inr ⟨rfl, getLsbD_of_or mTpoe_bitTc⟩
  | rxDataUnderflow | rxLengthUnderflow => exact .inr ⟨rfl, getLsbD_of_or mRpure_bitTc⟩

/-- Settles O41: an accepted length write by its meaning, the converse from what each instruction can do. -/
theorem lengthWriteFrame : Obligations.LengthWriteFrame := by
  refine ⟨fun v s => exec_wrFifoTxLength_of_room v, fun i s t hexec hchange => ?_,
    fun s => step_of_nothing_presented⟩
  obtain ⟨u, r, hacts, rfl⟩ := acts_of_exec hexec
  rcases hacts.lengthWrite_or_quiet with hwrite | ⟨hsent, hkeep⟩
  · exact hwrite
  · rcases hchange with hsends | ⟨hclear, hset⟩
    · exact absurd hsent hsends
    · exact nomatch hclear.symm.trans (hkeep hset)

theorem RingBuffer.isFull_eq_false_of_occ_lt {N : Nat} (r : RingBuffer N) (h : r.occ < N - 1) :
    r.isFull = false :=
  Bool.eq_false_iff.mpr fun hfull => h.ne (r.isFull_iff_occ.mp hfull)

/-- Alone and with exactly its words there, a record is drained and leaves nothing. -/
theorem drainQueues_of_exact (order : Config.FrameByteOrder) {len : Word} {words : List Word}
    (h : words.length = wordCount len) :
    drainQueues order [len] words = ⟨[assembleFrame order words len], ⟨[], []⟩⟩ := by
  simp [drainQueues, ← h]

/-- Settles O42: the pipeline run after the push drains the one record and its words. -/
theorem lockStepLengthWriteSendsOneFrame : Obligations.LockStepLengthWriteSendsOneFrame := by
  intro len s hempty hwords
  have hocc : s.txl.occ = 0 := s.txl.occ_eq_zero_iff.mpr hempty
  have hroom := s.txl.isFull_eq_false_of_occ_lt (by omega)
  have hlens : (s.txl.push len).contents = [len] := by
    rw [s.txl.push_contents len hroom, s.txl.contents_eq_nil_iff.mpr hempty, List.nil_append]
  have hdrain := drainQueues_of_exact cfg.frameByteOrder hwords
  rw [← hlens] at hdrain
  obtain ⟨hqueues, hrun⟩ := pipelineDrainsQueues cfg { s with txl := s.txl.push len } _ hdrain.symm
  simp only [txQueues, TxQueues.mk.injEq, RingBuffer.contents_eq_nil_iff] at hqueues
  obtain ⟨htxl, htxd⟩ := hqueues
  have hevents := congrArg State.events hrun
  refine ⟨_, exec_wrFifoTxLength_of_room len hroom, hevents, ?_, htxl, htxd, ?_⟩
  · exact assembleFrame_length _ _ _ (hwords ▸ (wordCount_bounds len).1)
  · rw [hrun]
    rfl

/-- A data write with a place in both rings. -/
theorem exec_wrFifoTxData_of_room (v : Word) {s : State} (hlens : s.txl.isFull = false)
    (hwords : s.txd.isFull = false) :
    exec (.wrFifoTxData v) s = .next { s with txd := s.txd.push v, replies := s.replies ++ [.nothing] } := by
  simp [exec, execWrFifoTxData, writeTxData, hlens, hwords, State.reply]

/-- The vacancy in terms of the two rings (R88). -/
theorem txVacancy_of_room {s : State} (h : s.txl.isFull = false) : txVacancy s = 511 - s.txd.occ := by
  rw [txVacancy, h]
  simp only [Bool.false_eq_true, if_false]
  omega

theorem txVacancy_of_full {s : State} (h : s.txl.isFull = true) : txVacancy s = 0 := if_pos h

/-- With a place vacant neither ring is full (R88). -/
theorem room_of_txVacancy_pos {s : State} (h : 0 < txVacancy s) : s.txl.isFull = false ∧ s.txd.isFull = false := by
  have hlens : s.txl.isFull = false := Bool.eq_false_iff.mpr fun hfull => by
    rw [txVacancy_of_full hfull] at h
    exact absurd h (Nat.lt_irrefl 0)
  rw [txVacancy_of_room hlens] at h
  exact ⟨hlens, s.txd.isFull_eq_false_of_occ_lt (by omega)⟩

/-- With no place vacant one of the rings is full (R88). -/
theorem full_of_txVacancy_zero {s : State} (h : txVacancy s = 0) : s.txl.isFull = true ∨ s.txd.isFull = true := by
  cases hlens : s.txl.isFull with
  | true => exact .inl rfl
  | false =>
    have hocc := s.txd.occ_lt
    rw [txVacancy_of_room hlens] at h
    exact .inr (s.txd.isFull_iff_occ.mpr (by omega))

/-- An accepted data word takes one place. -/
theorem txVacancy_push {s t : State} (v : Word) (hpos : 0 < txVacancy s) (htxl : t.txl = s.txl)
    (htxd : t.txd = s.txd.push v) : txVacancy t + 1 = txVacancy s := by
  obtain ⟨hlens, hwords⟩ := room_of_txVacancy_pos hpos
  rw [txVacancy_of_room (htxl ▸ hlens), txVacancy_of_room hlens, htxd, s.txd.push_occ v hwords]
  rw [txVacancy_of_room hlens] at hpos
  omega

theorem exec_wrFifoTxData_of_full (v : Word) {s : State} (h : s.txl.isFull = true ∨ s.txd.isFull = true) :
    exec (.wrFifoTxData v) s = .next
      { s with fifoStatus := s.fifoStatus ||| mTpoe cfg, replies := s.replies ++ [.nothing] } := by
  simp [exec, execWrFifoTxData, writeTxData, h, State.raise, State.reply]

/-- Settles O60: word by word, each write taking one of the vacant places. -/
theorem vacancyCountsAcceptedPushes : Obligations.VacancyCountsAcceptedPushes := by
  refine ⟨fun words => ?_, fun v s hzero => exec_wrFifoTxData_of_full v (full_of_txVacancy_zero hzero)⟩
  induction words with
  | nil => exact fun s _ => ⟨s, rfl, (List.append_nil _).symm, rfl, rfl, rfl⟩
  | cons w words ih =>
    intro s hlen
    rw [List.length_cons] at hlen
    have hpos : 0 < txVacancy s := by omega
    obtain ⟨hlens, hwords⟩ := room_of_txVacancy_pos hpos
    obtain ⟨u, hexec, htxd, htxl, hstatus⟩ : ∃ u, exec (.wrFifoTxData w) s = .next u ∧
        u.txd = s.txd.push w ∧ u.txl = s.txl ∧ u.fifoStatus = s.fifoStatus :=
      ⟨_, exec_wrFifoTxData_of_room w hlens hwords, rfl, rfl, rfl⟩
    have hvacancy : txVacancy u + 1 = txVacancy s := txVacancy_push w hpos htxl htxd
    obtain ⟨t, hrun, hcontents, htxl', hstatus', hleft⟩ := ih u (by omega)
    refine ⟨t, ?_, ?_, htxl'.trans htxl, hstatus'.trans hstatus, ?_⟩
    · rw [List.map_cons, execAll, hexec]
      exact hrun
    · rw [hcontents, htxd, s.txd.push_contents w hwords, List.append_assoc, List.singleton_append]
    · rw [List.length_cons]
      omega

theorem step_operation {s : State} {op : Operation} {rest : List Request} {i : Instr}
    (hinbox : s.inbox = .operation op :: rest) (hdecode : decode op = .ok i) :
    step s = exec i { s with inbox := rest } :=
  step_eq_exec_of_decoded hinbox hdecode

/-- The data writes still to come, and then the length write, send the frame of the words queued and to come. -/
theorem run_frame_writes (len : Word) (rest : List Request) (words : List Word) (s : State)
    (hlens : s.txl.isEmpty = true) (hcount : (s.txd.contents ++ words).length = wordCount len)
    (hfit : (s.txd.contents ++ words).length ≤ 511)
    (hinbox : s.inbox = words.map (fun w => .operation (writeOperation 0x6010#16 w)) ++
      .operation (writeOperation 0x6014#16 len) :: rest) :
    ∃ t, Sys2Proof.core.run (words.length + 1) s = .next t ∧
      t.events = s.events ++ [.send (assembleFrame cfg.frameByteOrder (s.txd.contents ++ words) len)] ∧
      t.txl.isEmpty = true ∧ t.txd.isEmpty = true ∧
      t.fifoStatus = s.fifoStatus ||| mTc cfg ∧ t.inbox = rest := by
  induction words generalizing s with
  | nil =>
    rw [List.append_nil] at hcount
    have hstep := step_operation hinbox (decode_wrFifoTxLength len)
    obtain ⟨t, hexec, hevents, _, htxl, htxd, hkeep⟩ :=
      lockStepLengthWriteSendsOneFrame len { s with inbox := rest } hlens hcount
    refine ⟨t, (core_run_succ_eq_next 0 s t).mpr ⟨t, hstep.trans hexec, rfl⟩, ?_, htxl, htxd, by rw [hkeep],
      by rw [hkeep]⟩
    rw [hevents, List.append_nil]
  | cons w words ih =>
    have hocc : s.txl.occ = 0 := s.txl.occ_eq_zero_iff.mpr hlens
    have hsize : s.txd.occ + (words.length + 1) ≤ 511 := by simpa using hfit
    have hroom := s.txd.isFull_eq_false_of_occ_lt (by omega)
    obtain ⟨u, hstep, htxd, htxl, hevents, hstatus, htail⟩ : ∃ u, step s = .next u ∧ u.txd = s.txd.push w ∧
        u.txl = s.txl ∧ u.events = s.events ∧ u.fifoStatus = s.fifoStatus ∧
        u.inbox = words.map (fun w => .operation (writeOperation 0x6010#16 w)) ++
          .operation (writeOperation 0x6014#16 len) :: rest :=
      ⟨_, (step_operation hinbox (decode_wrFifoTxData w)).trans
        (exec_wrFifoTxData_of_room w (s.txl.isFull_eq_false_of_occ_lt (by omega)) hroom), rfl, rfl, rfl, rfl, rfl⟩
    have hqueued : u.txd.contents ++ words = s.txd.contents ++ w :: words := by
      rw [htxd, s.txd.push_contents w hroom, List.append_assoc, List.singleton_append]
    obtain ⟨t, hrun, hend⟩ := ih u (htxl ▸ hlens) (hqueued ▸ hcount) (hqueued ▸ hfit) htail
    rw [hqueued, hevents, hstatus] at hend
    exact ⟨t, (core_run_succ_eq_next _ s t).mpr ⟨u, hstep, hrun⟩, hend⟩

/-- Settles O43: the accesses of SENDFRAME from empty rings. -/
theorem sendFrameReachesSink : Obligations.SendFrameReachesSink := by
  intro len words ops rest s hcount hfit hexpand hlens hwords hinbox
  have hnone : s.txd.contents = [] := s.txd.contents_eq_nil_iff.mpr hwords
  have hops : words.map (writeOperation 0x6010#16) ++ [writeOperation 0x6014#16 len] = ops :=
    Option.some.inj ((if_pos hcount).symm.trans hexpand)
  subst hops
  obtain ⟨t, hrun, hevents, hrest⟩ := run_frame_writes len rest words s hlens (by rwa [hnone]) (by rwa [hnone])
    (by simpa [Function.comp_def] using hinbox)
  rw [hnone, List.nil_append] at hevents
  exact ⟨t, by simpa using hrun, hevents, hrest⟩

end Sys2Proof.Machine
end

section
/-! What each access writes, and what it leaves (R28, R149): the writers of every field, banks, reads, one
cause an access, and the obligations on them. -/

namespace Sys2Proof.Machine

open Sys2Proof.Laws

section Writers

variable {i : Instr} {s u : State} {r : Reply}

theorem Acts.writes_mdioCtrl (h : Acts s i u r) : u.mdioCtrl = s.mdioCtrl ∨ ∃ v, i = .wrHostMdioCtrl v := by
  cases h with
  | mdioCtrl v => exact .inr ⟨v, rfl⟩
  | _ => exact .inl rfl

theorem Acts.writes_mdioData (h : Acts s i u r) :
    u.mdioData = s.mdioData ∨ ∃ v, i = .wrHostMdioData v ∨ (i = .wrHostMdioCtrl v ∧ v.getLsbD 10 = true) := by
  cases h with
  | mdioCtrl v =>
    cases hread : v.getLsbD 10 with
    | true => exact .inr ⟨v, .inr ⟨rfl, hread⟩⟩
    | false => exact .inl rfl
  | mdioData v => exact .inr ⟨v, .inl rfl⟩
  | _ => exact .inl rfl

theorem Acts.writes_hostMask (h : Acts s i u r) : u.hostMask = s.hostMask ∨ ∃ v, i = .wrHostIrqMask v := by
  cases h with
  | irqMask v => exact .inr ⟨v, rfl⟩
  | _ => exact .inl rfl

theorem Acts.writes_hostFlags (h : Acts s i u r) :
    u.hostFlags = s.hostFlags ∨ ∃ v, i = .wrHostMdioCtrl v ∨ i = .wrHostIrqFlags v := by
  cases h with
  | mdioCtrl v => exact .inr ⟨v, .inl rfl⟩
  | irqFlags v => exact .inr ⟨v, .inr rfl⟩
  | _ => exact .inl rfl

theorem Acts.writes_vlanMask (h : Acts s i u r) :
    u.vlanMask = s.vlanMask ∨ (∃ v, i = .wrHostVlanMask v) ∧ cfg.vlanWriteStores = true := by
  cases h with
  | vlanMask v =>
    cases hstores : cfg.vlanWriteStores with
    | true => exact .inr ⟨⟨v, rfl⟩, rfl⟩
    | false => exact .inl rfl
  | _ => exact .inl rfl

theorem Acts.writes_fifoStatus (h : Acts s i u r) :
    u.fifoStatus = s.fifoStatus ∨ i = .rdFifoRxData ∨ i = .rdFifoRxLength ∨
      ∃ v, i = .wrFifoIntStatus v ∨ i = .wrFifoTxData v ∨ i = .wrFifoTxLength v := by
  cases h with
  | rxDataUnderflow => exact .inr (.inl rfl)
  | rxLengthUnderflow => exact .inr (.inr (.inl rfl))
  | intStatus v => exact .inr (.inr (.inr ⟨v, .inl rfl⟩))
  | txDataOverflow v => exact .inr (.inr (.inr ⟨v, .inr (.inl rfl)⟩))
  | txLengthOverflow v | txLengthAccepted v => exact .inr (.inr (.inr ⟨v, .inr (.inr rfl)⟩))
  | _ => exact .inl rfl

theorem Acts.writes_fifoEnable (h : Acts s i u r) :
    u.fifoEnable = s.fifoEnable ∨ ∃ v, i = .wrFifoIntEnable v := by
  cases h with
  | intEnable v => exact .inr ⟨v, rfl⟩
  | _ => exact .inl rfl

theorem shadowAfter_eq_or (old v : Word) : shadowAfter cfg old v = old ∨ cfg.shadowTracksWrites = true := by
  cases htracks : cfg.shadowTracksWrites with
  | true => exact .inr rfl
  | false => exact .inl (shadowAfter_of_untracked cfg old v htracks)

theorem Acts.writes_shadow2 (h : Acts s i u r) :
    u.shadow2 = s.shadow2 ∨ (∃ v, i = .wrFifoTxReset v) ∧ cfg.shadowTracksWrites = true := by
  cases h with
  | txResetMagic => exact (shadowAfter_eq_or _ _).imp_right (⟨⟨_, rfl⟩, ·⟩)
  | txResetOther => exact (shadowAfter_eq_or _ _).imp_right (⟨⟨_, rfl⟩, ·⟩)
  | _ => exact .inl rfl

theorem Acts.shadow4_eq (h : Acts s i u r) : u.shadow4 = s.shadow4 := by
  cases h <;> rfl

theorem Acts.writes_shadow5 (h : Acts s i u r) :
    u.shadow5 = s.shadow5 ∨ (∃ v, i = .wrFifoTxLength v) ∧ cfg.shadowTracksWrites = true := by
  cases h with
  | txLengthOverflow => exact (shadowAfter_eq_or _ _).imp_right (⟨⟨_, rfl⟩, ·⟩)
  | txLengthAccepted => exact (shadowAfter_eq_or _ _).imp_right (⟨⟨_, rfl⟩, ·⟩)
  | _ => exact .inl rfl

theorem Acts.writes_shadow6 (h : Acts s i u r) :
    u.shadow6 = s.shadow6 ∨ (∃ v, i = .wrFifoRxReset v) ∧ cfg.shadowTracksWrites = true := by
  cases h with
  | rxResetMagic => exact (shadowAfter_eq_or _ _).imp_right (⟨⟨_, rfl⟩, ·⟩)
  | rxResetOther => exact (shadowAfter_eq_or _ _).imp_right (⟨⟨_, rfl⟩, ·⟩)
  | _ => exact .inl rfl

theorem Acts.writes_txd (h : Acts s i u r) :
    u.txd = s.txd ∨ i = .wrFifoTxReset 0xA5#32 ∨ ∃ v, i = .wrFifoTxData v ∨ i = .wrFifoTxLength v := by
  cases h with
  | txResetMagic => exact .inr (.inl rfl)
  | txDataPushed v => exact .inr (.inr ⟨v, .inl rfl⟩)
  | txLengthAccepted v => exact .inr (.inr ⟨v, .inr rfl⟩)
  | _ => exact .inl rfl

theorem Acts.writes_txl (h : Acts s i u r) :
    u.txl = s.txl ∨ i = .wrFifoTxReset 0xA5#32 ∨ ∃ v, i = .wrFifoTxLength v := by
  cases h with
  | txResetMagic => exact .inr (.inl rfl)
  | txLengthAccepted v => exact .inr (.inr ⟨v, rfl⟩)
  | _ => exact .inl rfl

theorem Acts.writes_rxd (h : Acts s i u r) : u.rxd = s.rxd ∨ i = .rdFifoRxData ∨ i = .wrFifoRxReset 0xA5#32 := by
  cases h with
  | rxDataPopped => exact .inr (.inl rfl)
  | rxResetMagic => exact .inr (.inr rfl)
  | _ => exact .inl rfl

theorem Acts.writes_rxl (h : Acts s i u r) :
    u.rxl = s.rxl ∨ i = .rdFifoRxLength ∨ i = .wrFifoRxReset 0xA5#32 := by
  cases h with
  | rxLengthPopped => exact .inr (.inl rfl)
  | rxResetMagic => exact .inr (.inr rfl)
  | _ => exact .inl rfl

end Writers

/-- Settles O53: field by field; the reply writes none. -/
theorem registerWriters : Obligations.RegisterWriters := by
  intro i s t hexec
  obtain ⟨u, r, h, rfl⟩ := acts_of_exec hexec
  exact ⟨h.writes_mdioCtrl, h.writes_mdioData, h.writes_hostMask, h.writes_hostFlags, h.writes_vlanMask,
    h.writes_fifoStatus, h.writes_fifoEnable, h.writes_shadow2, h.shadow4_eq, h.writes_shadow5, h.writes_shadow6,
    h.writes_txd, h.writes_txl, h.writes_rxd, h.writes_rxl⟩

/-- Settles O49: a read that is no RX pop is plain or of an undefined slot. -/
theorem readsChangeNothingButRxPops : Obligations.ReadsChangeNothingButRxPops := by
  intro i s t hread hdata hlength hexec
  obtain ⟨u, r, h, rfl⟩ := acts_of_exec hexec
  cases h with
  | plain _ hdefined => exact ⟨rfl, by simp [hdefined]⟩
  | undefined _ hundefined hbank => exact ⟨rfl, by simp [hundefined, hbank, dirOf, hread]⟩
  | rxDataUnderflow | rxDataPopped => exact absurd rfl hdata
  | rxLengthUnderflow | rxLengthPopped => exact absurd rfl hlength
  | _ => simp at hread

/-- Settles O51: an access to a bank updates that bank's fields alone. -/
theorem banksAreIndependent : Obligations.BanksAreIndependent := by
  intro i s t hexec
  obtain ⟨u, r, h, rfl⟩ := acts_of_exec hexec
  cases h with
  | plain | undefined =>
    exact ⟨fun _ => ⟨rfl, rfl⟩, fun _ => ⟨rfl, rfl, rfl, rfl, rfl, rfl⟩, fun _ => ⟨rfl, rfl⟩⟩
  | mdioCtrl | mdioData | irqMask | irqFlags | vlanMask => exact ⟨fun _ => ⟨rfl, rfl⟩, by simp, by simp⟩
  | _ => exact ⟨by simp, fun _ => ⟨rfl, rfl, rfl, rfl, rfl, rfl⟩, by simp⟩

/-- Write-1-to-clear only loses bits. -/
theorem w1c_and_self {n : Nat} (status clear : BitVec n) : w1c status clear &&& status = w1c status clear := by
  rw [w1c, BitVec.and_comm, ← BitVec.and_assoc, BitVec.and_self]

/-- Settles O52: which status register an access updates, and how. -/
theorem oneCausePerAccess : Obligations.OneCausePerAccess := by
  intro i s t hexec
  obtain ⟨u, r, h, rfl⟩ := acts_of_exec hexec
  cases h with
  | mdioCtrl v => exact .inr (.inr ⟨rfl, .inl ⟨v, rfl, rfl⟩⟩)
  | irqFlags v => exact .inr (.inr ⟨rfl, .inr ⟨v, rfl, w1c_and_self _ _⟩⟩)
  | intStatus v => exact .inr (.inl ⟨rfl, .inr (.inr (.inr ⟨v, rfl, w1c_and_self _ _⟩))⟩)
  | txDataOverflow v => exact .inr (.inl ⟨rfl, .inr (.inl ⟨v, rfl, rfl⟩)⟩)
  | txLengthOverflow v hfull => exact .inr (.inl ⟨rfl, .inl ⟨v, rfl, .inr ⟨hfull, rfl⟩⟩⟩)
  | @txLengthAccepted v a _ _ hroom =>
    by_cases hdrained : (s.txl.push v).pushIdx = a
    · exact .inr (.inl ⟨rfl, .inl ⟨v, rfl, .inl ⟨hroom, if_pos hdrained⟩⟩⟩)
    · exact .inl ⟨if_neg hdrained, rfl⟩
  | rxDataUnderflow => exact .inr (.inl ⟨rfl, .inr (.inr (.inl ⟨.inl rfl, rfl⟩))⟩)
  | rxLengthUnderflow => exact .inr (.inl ⟨rfl, .inr (.inr (.inl ⟨.inr rfl, rfl⟩))⟩)
  | _ => exact .inl ⟨rfl, rfl⟩

/-- A write whose update, done again after any reply, changes nothing more. -/
theorem exec_again_of_idempotent {i : Instr} {f : State → State}
    (hexec : ∀ s, exec i s = .next ((f s).reply .nothing))
    (hagain : ∀ s, f ((f s).reply .nothing) = (f s).reply .nothing) (s t : State)
    (h : exec i s = .next t) : exec i t = .next { t with replies := t.replies ++ [.nothing] } := by
  obtain rfl := Host.Outcome.next.inj (h.symm.trans (hexec s))
  rw [hexec, hagain]
  rfl

theorem shadowAfter_shadowAfter (old v : Word) :
    shadowAfter cfg (shadowAfter cfg old v) v = shadowAfter cfg old v := by
  unfold shadowAfter
  split <;> rfl

theorem w1c_w1c {n : Nat} (status clear : BitVec n) : w1c (w1c status clear) clear = w1c status clear := by
  rw [w1c, w1c, BitVec.and_assoc, BitVec.and_self]

@[simp] theorem RingBuffer.clear_clear {N : Nat} (r : RingBuffer N) : r.clear.clear = r.clear := rfl

/-- Settles O50: each write's update is idempotent. -/
theorem repeatedWriteChangesNothing : Obligations.RepeatedWriteChangesNothing := by
  intro write hwrite v
  simp only [List.mem_cons, List.not_mem_nil, or_false] at hwrite
  rcases hwrite with rfl | rfl | rfl | rfl | rfl | rfl | rfl | rfl | rfl
  · refine exec_again_of_idempotent (fun s => rfl) fun s => ?_
    cases hread : mdioSelectOperand v <;> simp [mdioShim, State.reply, BitVec.or_assoc]
  · exact exec_again_of_idempotent (fun s => rfl) fun s => rfl
  · exact exec_again_of_idempotent (fun s => rfl) fun s => rfl
  · exact exec_again_of_idempotent (fun s => rfl) fun s => by simp [State.reply, w1c_w1c]
  · refine exec_again_of_idempotent (fun s => rfl) fun s => ?_
    cases cfg.vlanWriteStores <;> rfl
  · exact exec_again_of_idempotent (fun s => rfl) fun s => by simp [State.reply, w1c_w1c]
  · exact exec_again_of_idempotent (fun s => rfl) fun s => rfl
  · refine exec_again_of_idempotent (fun s => rfl) fun s => ?_
    cases isResetMagic v <;> simp [State.reply, State.clearTx, shadowAfter_shadowAfter]
  · refine exec_again_of_idempotent (fun s => rfl) fun s => ?_
    cases isResetMagic v <;> simp [State.reply, State.clearRx, shadowAfter_shadowAfter]

end Sys2Proof.Machine
end

section
/-! The error conditions (R127): which accesses meet each code, what they then do, and the obligations on
them and on a full length ring. -/

namespace Sys2Proof.Machine

open Sys2Proof.Laws

section Conditions

variable {i : Instr} {s : State}

theorem errorOf_of_keeps (h : mayChangeState i = false) :
    errorOf i s = if touchesUndefined i then some .unknownRegister else none := by
  cases i with
  | wrFifoTxData | wrFifoTxLength | rdFifoRxData | rdFifoRxLength | wrFifoTxReset | wrFifoRxReset =>
    exact nomatch h
  | _ => rfl

theorem txOverflow_cases (h : errorOf i s = some .txOverflow) :
    (∃ v, i = .wrFifoTxData v ∧ (s.txl.isFull = true ∨ s.txd.isFull = true)) ∨
      ∃ v, i = .wrFifoTxLength v ∧ s.txl.isFull = true := by
  cases i with
  | wrFifoTxData v => exact .inl ⟨v, rfl, or_iff_not_imp_left.mpr (by simpa using h)⟩
  | wrFifoTxLength v => exact .inr ⟨v, rfl, by simpa using h⟩
  | _ => simp at h

theorem rxUnderflow_cases (h : errorOf i s = some .rxUnderflow) :
    (i = .rdFifoRxData ∧ s.rxd.isEmpty = true) ∨ (i = .rdFifoRxLength ∧ s.rxl.isEmpty = true) := by
  cases i with
  | rdFifoRxData => exact .inl ⟨rfl, by simpa using h⟩
  | rdFifoRxLength => exact .inr ⟨rfl, by simpa using h⟩
  | _ => simp at h

theorem invalidReset_cases (h : errorOf i s = some .invalidReset) :
    ∃ v, v ≠ 0xA5#32 ∧ (i = .wrFifoTxReset v ∨ i = .wrFifoRxReset v) := by
  cases i with
  | wrFifoTxReset v => exact ⟨v, by simpa using h, .inl rfl⟩
  | wrFifoRxReset v => exact ⟨v, by simpa using h, .inr rfl⟩
  | _ => simp at h

theorem touchesUndefined_of_unknownRegister (h : errorOf i s = some .unknownRegister) :
    touchesUndefined i = true := by
  cases i with
  | wrFifoTxData | wrFifoTxLength | rdFifoRxData | rdFifoRxLength | wrFifoTxReset | wrFifoRxReset => simp at h
  | _ => simp at h ⊢

end Conditions

theorem Acts.of_touchesUndefined {i : Instr} {s u : State} {r : Reply} (h : Acts s i u r)
    (hundefined : touchesUndefined i = true) :
    ∃ bank, bankOf i = some bank ∧ u = s.diagnoseUnknown bank (slotOf i) (dirOf i) ∧
      r = if isRead i then .value 0 else .nothing := by
  cases h with
  | undefined _ _ hbank => exact ⟨_, hbank, rfl, rfl⟩
  | plain _ hdefined => exact nomatch hdefined.symm.trans hundefined
  | _ => simp at hundefined

theorem exec_wrFifoTxLength_of_full (v : Word) {s : State} (h : s.txl.isFull = true) :
    exec (.wrFifoTxLength v) s = .next
      { s with
        fifoStatus := s.fifoStatus ||| mTpoe cfg
        shadow5 := if cfg.shadowTracksWrites then v else s.shadow5
        replies := s.replies ++ [.nothing] } := by
  rw [exec_wrFifoTxLength, queueTxLength, h]
  rfl

theorem exec_rdFifoRxData_of_empty {s : State} (h : s.rxd.isEmpty = true) :
    exec .rdFifoRxData s = .next
      { s with
        fifoStatus := s.fifoStatus ||| mRpure cfg
        replies := s.replies ++ [.value s.rxd.mem[s.rxd.popIdx.val]] } := by
  simp only [exec, execRdFifoRxData, popRxData, RingBuffer.pop_wasEmpty, h]
  rfl

theorem exec_rdFifoRxLength_of_empty {s : State} (h : s.rxl.isEmpty = true) :
    exec .rdFifoRxLength s = .next
      { s with
        fifoStatus := s.fifoStatus ||| mRpure cfg
        replies := s.replies ++ [.value s.rxl.mem[s.rxl.popIdx.val]] } := by
  simp only [exec, execRdFifoRxLength, popRxLength, RingBuffer.pop_wasEmpty, h]
  rfl

theorem isResetMagic_eq (v : Word) : isResetMagic v = decide (v.toNat = 0xA5) :=
  Bool.eq_iff_iff.mpr (by simp [isResetMagic, resetMagic, ← BitVec.toNat_inj])

theorem exec_wrFifoTxReset (v : Word) (s : State) :
    exec (.wrFifoTxReset v) s = .next
      { s with
        txd := if v.toNat = 0xA5 then { s.txd with pushIdx := 0, popIdx := 0 } else s.txd
        txl := if v.toNat = 0xA5 then { s.txl with pushIdx := 0, popIdx := 0 } else s.txl
        shadow2 := if cfg.shadowTracksWrites then v else s.shadow2
        replies := s.replies ++ [.nothing] } := by
  by_cases hv : v.toNat = 0xA5 <;> simp only [exec, execWrFifoTxReset, isResetMagic_eq, hv] <;> rfl

theorem exec_wrFifoRxReset (v : Word) (s : State) :
    exec (.wrFifoRxReset v) s = .next
      { s with
        rxd := if v.toNat = 0xA5 then { s.rxd with pushIdx := 0, popIdx := 0 } else s.rxd
        rxl := if v.toNat = 0xA5 then { s.rxl with pushIdx := 0, popIdx := 0 } else s.rxl
        shadow6 := if cfg.shadowTracksWrites then v else s.shadow6
        replies := s.replies ++ [.nothing] } := by
  by_cases hv : v.toNat = 0xA5 <;> simp only [exec, execWrFifoRxReset, isResetMagic_eq, hv] <;> rfl

/-- Settles O54: for each code, the accesses that meet it and what each of them then does. -/
theorem errorConditions : Obligations.ErrorConditions := by
  refine fun i s => ⟨fun h => ?_, fun h => ?_, fun h => ?_, fun h => ?_⟩
  · obtain ⟨v, rfl, hfull⟩ | ⟨v, rfl, hfull⟩ := txOverflow_cases h
    · refine ⟨_, exec_wrFifoTxData_of_full v hfull, by simp, bne_iff_ne⟩
    · refine ⟨_, exec_wrFifoTxLength_of_full v hfull, by simp [encode, writeOperation], bne_iff_ne⟩
  · obtain ⟨rfl, hempty⟩ | ⟨rfl, hempty⟩ := rxUnderflow_cases h
    · exact ⟨_, exec_rdFifoRxData_of_empty hempty, rfl, bne_iff_ne⟩
    · exact ⟨_, exec_rdFifoRxLength_of_empty hempty, rfl, bne_iff_ne⟩
  · obtain ⟨v, hv, rfl | rfl⟩ := invalidReset_cases h
    · have hne : v.toNat ≠ 0xA5 := fun heq => hv (BitVec.eq_of_toNat_eq heq)
      simp [exec_wrFifoTxReset, hne, encode, writeOperation]
    · have hne : v.toNat ≠ 0xA5 := fun heq => hv (BitVec.eq_of_toNat_eq heq)
      simp [exec_wrFifoRxReset, hne, encode, writeOperation]
  · obtain ⟨u, r, hacts, hexec⟩ := exec_actsTo i s
    obtain ⟨bank, hbank, rfl, rfl⟩ := hacts.of_touchesUndefined (touchesUndefined_of_unknownRegister h)
    exact ⟨bank, hbank, hexec⟩

theorem mTc_bitTpoe : (mTc cfg).getLsbD cfg.bitTpoe.val = false := by
  rw [mTc_getLsbD, decide_eq_false_iff_not, ← Fin.ext_iff]
  exact cfg.bits_distinct.2.2

theorem mTc_bitRpure : (mTc cfg).getLsbD cfg.bitRpure.val = false := by
  rw [mTc_getLsbD, decide_eq_false_iff_not, ← Fin.ext_iff]
  exact cfg.bits_distinct.2.1

/-- A pipeline run sets no bit that `M_TC` lacks. -/
theorem getLsbD_of_afterRun {s : State} {a : Fin 16} {b : Fin 512} {frames : List (List Byte)} {k : Nat}
    (hk : (mTc cfg).getLsbD k = false)
    (h : (s.afterRun a b frames).fifoStatus.getLsbD k = true) : s.fifoStatus.getLsbD k = true := by
  simp only [State.afterRun] at h
  split at h
  · exact getLsbD_of_or hk h
  · exact h

/-- Settles O55: an access in no error condition is plain, stores, clears, pops, or is an accepted push. -/
theorem cleanAccessReportsNothing : Obligations.CleanAccessReportsNothing := by
  intro i s t herror hexec
  obtain ⟨u, r, h, rfl⟩ := acts_of_exec hexec
  cases h with
  | undefined hkeeps hundefined => simp [errorOf_of_keeps hkeeps, hundefined] at herror
  | txDataOverflow _ hfull => simp [hfull] at herror
  | txLengthOverflow _ hfull => simp [hfull] at herror
  | rxDataUnderflow hempty | rxLengthUnderflow hempty => simp [hempty] at herror
  | intStatus => exact ⟨getLsbD_of_w1c, getLsbD_of_w1c, [], (List.append_nil _).symm⟩
  | @txLengthAccepted _ a b frames =>
    exact ⟨getLsbD_of_afterRun (b := b) (frames := frames) mTc_bitTpoe,
      getLsbD_of_afterRun (b := b) (frames := frames) mTc_bitRpure, frames, rfl⟩
  | _ => exact ⟨id, id, [], (List.append_nil _).symm⟩

theorem or_mTpoe_bitTpoe (status : Word) : (status ||| mTpoe cfg).getLsbD cfg.bitTpoe.val = true := by
  simp only [BitVec.getLsbD_or, mTpoe_getLsbD, decide_true, Bool.or_true]

/-- Settles O59: a full length ring accepts no push, and no record is drained without one. -/
theorem fullLengthRingBlocks : Obligations.FullLengthRingBlocks := by
  refine fun s hfull => ⟨fun i t hreset hexec => ?_, fun v => ?_, ?_, ?_⟩
  · obtain ⟨u, r, h, rfl⟩ := acts_of_exec hexec
    cases h with
    | txResetMagic => exact absurd rfl hreset
    | txDataPushed _ hroom | txLengthAccepted _ hroom => exact nomatch hfull.symm.trans hroom
    | undefined => exact ⟨rfl, rfl, (sentFrames_append _ _).trans (List.append_nil _)⟩
    | _ => exact ⟨rfl, rfl, rfl⟩
  · exact ⟨_, _, exec_wrFifoTxData_of_full v (.inl hfull), or_mTpoe_bitTpoe _,
      exec_wrFifoTxLength_of_full v hfull, or_mTpoe_bitTpoe _⟩
  · exact congrArg (fun n => completeRead (countResult n) s) (txVacancy_of_full hfull)
  · exact ⟨_, rfl, s.txd.clear.occ_eq_zero_iff.mp s.txd.clear_occ, s.txl.clear.occ_eq_zero_iff.mp s.txl.clear_occ⟩

end Sys2Proof.Machine
end

section
/-! The device invariant: each access keeps it (R21, R23 to R25, R78, R124), what it says of the status bits,
and the obligations that rest on it. -/

namespace Sys2Proof.Machine

open Sys2Proof.Laws

/-- The three status bits the device has (R23). -/
def statusBits : Word := mTpoe cfg ||| mRpure cfg ||| mTc cfg

theorem statusBits_getLsbD (k : Nat) :
    statusBits.getLsbD k = true ↔ k = cfg.bitTpoe.val ∨ k = cfg.bitRpure.val ∨ k = cfg.bitTc.val := by
  simp only [statusBits, BitVec.getLsbD_or, mTpoe_getLsbD, mRpure_getLsbD, mTc_getLsbD, Bool.or_eq_true,
    decide_eq_true_eq, or_assoc]

/-- A word lies inside a field exactly when each of its bits does. -/
theorem and_not_eq_zero_iff {n : Nat} (w field : BitVec n) :
    w &&& ~~~field = 0 ↔ ∀ k, w.getLsbD k = true → field.getLsbD k = true := by
  rw [← not_iff_not, ← Ne, and_ne_zero_iff]
  push Not
  refine exists_congr fun k => ?_
  constructor
  · rintro ⟨hk, hw, hf⟩
    simpa [hk, hw] using hf
  · rintro ⟨hw, hf⟩
    have hk : k < n := BitVec.lt_of_getLsbD hw
    simpa [hk, hw] using hf

theorem DeviceInv.status_bit {s : State} (h : DeviceInv s) {k : Nat} (hk : s.fifoStatus.getLsbD k = true) :
    k = cfg.bitTpoe.val ∨ k = cfg.bitRpure.val ∨ k = cfg.bitTc.val :=
  (statusBits_getLsbD k).mp ((and_not_eq_zero_iff _ _).mp h.status_bits k hk)

theorem DeviceInv.enable_bit {s : State} (h : DeviceInv s) {k : Nat} (hk : s.fifoEnable.getLsbD k = true) :
    cfg.fifoIntField.getLsbD k = true :=
  (and_not_eq_zero_iff _ _).mp h.enable_bits k hk

/-- The status register may change where it stays inside the three bits. -/
theorem DeviceInv.of_status {s u : State} (h : DeviceInv s)
    (hstatus : ∀ k, u.fifoStatus.getLsbD k = true → s.fifoStatus.getLsbD k = true ∨ statusBits.getLsbD k = true)
    (hrest : u = { s with fifoStatus := u.fifoStatus, txd := u.txd, txl := u.txl, inbox := u.inbox
                          events := u.events, replies := u.replies }) : DeviceInv u := by
  have hbits := (and_not_eq_zero_iff u.fifoStatus statusBits).mpr fun k hk =>
    (hstatus k hk).elim ((and_not_eq_zero_iff _ _).mp h.status_bits k) id
  rw [hrest]
  exact { h with status_bits := hbits }

theorem DeviceInv.raise {s : State} (h : DeviceInv s) {m : Word}
    (hm : ∀ k, m.getLsbD k = true → statusBits.getLsbD k = true) : DeviceInv (s.raise m) := by
  refine h.of_status (fun k hk => ?_) rfl
  rw [State.raise_fifoStatus, BitVec.getLsbD_or, Bool.or_eq_true] at hk
  exact hk.imp_right (hm k)

theorem mTpoe_in_statusBits (k : Nat) (h : (mTpoe cfg).getLsbD k = true) : statusBits.getLsbD k = true := by
  simp [statusBits, h]

theorem mRpure_in_statusBits (k : Nat) (h : (mRpure cfg).getLsbD k = true) : statusBits.getLsbD k = true := by
  simp [statusBits, h]

theorem mTc_in_statusBits (k : Nat) (h : (mTc cfg).getLsbD k = true) : statusBits.getLsbD k = true := by
  simp [statusBits, h]

theorem DeviceInv.afterRun {s : State} (h : DeviceInv s) (a : Fin 16) (b : Fin 512)
    (frames : List (List Byte)) : DeviceInv (s.afterRun a b frames) := by
  refine h.of_status (fun k hk => ?_) rfl
  simp only [State.afterRun] at hk
  split at hk
  · rw [BitVec.getLsbD_or, Bool.or_eq_true] at hk
    exact hk.imp_right (mTc_in_statusBits k)
  · exact .inl hk

/-- Without SHADOW_TRACKS_WRITES a write leaves a zero shadow word zero (R25). -/
theorem shadowAfter_eq_zero {old : Word} (v : Word) (hno : cfg.shadowTracksWrites = false) (hold : old = 0) :
    shadowAfter cfg old v = 0 :=
  (shadowAfter_of_untracked cfg old v hno).trans hold

theorem DeviceInv.shadow2 {s : State} (h : DeviceInv s) (v : Word) :
    DeviceInv { s with shadow2 := shadowAfter cfg s.shadow2 v } :=
  { h with shadows_zero := fun hno =>
      ⟨shadowAfter_eq_zero v hno (h.shadows_zero hno).1, (h.shadows_zero hno).2⟩ }

theorem DeviceInv.shadow5 {s : State} (h : DeviceInv s) {old : Word} (v : Word) (hold : old = s.shadow5) :
    DeviceInv { s with shadow5 := shadowAfter cfg old v } :=
  { h with shadows_zero := fun hno =>
      have ⟨h2, h5, h6⟩ := h.shadows_zero hno
      ⟨h2, shadowAfter_eq_zero v hno (hold.trans h5), h6⟩ }

theorem DeviceInv.shadow6 {s : State} (h : DeviceInv s) (v : Word) :
    DeviceInv { s with shadow6 := shadowAfter cfg s.shadow6 v } :=
  { h with shadows_zero := fun hno =>
      have ⟨h2, h5, h6⟩ := h.shadows_zero hno
      ⟨h2, h5, shadowAfter_eq_zero v hno h6⟩ }

theorem DeviceInv.clearTx {s : State} (h : DeviceInv s) : DeviceInv s.clearTx :=
  h.of_status (fun _ => .inl) rfl

/-- A constructed ring's indices are already 0 (R102's corner case). -/
theorem construct_clear (N : Nat) (hN : 0 < N) (init : Nat → Word) :
    (RingBuffer.construct N hN init).clear = .construct N hN init := by
  have hzero : (RingBuffer.construct N hN init).position 0 = ⟨0, hN⟩ := Fin.ext (Nat.zero_mod N)
  rw [RingBuffer.clear, hzero]
  rfl

theorem construct_isEmpty (N : Nat) (hN : 0 < N) (init : Nat → Word) :
    (RingBuffer.construct N hN init).isEmpty = true :=
  (RingBuffer.isEmpty_iff_eq _).mpr rfl

theorem DeviceInv.rxd_clear {s : State} (h : DeviceInv s) : s.rxd.clear = s.rxd := by
  rw [h.rxd_constructed, construct_clear]

theorem DeviceInv.rxl_clear {s : State} (h : DeviceInv s) : s.rxl.clear = s.rxl := by
  rw [h.rxl_constructed, construct_clear]

theorem DeviceInv.rxd_isEmpty {s : State} (h : DeviceInv s) : s.rxd.isEmpty = true := by
  rw [h.rxd_constructed, construct_isEmpty]

theorem DeviceInv.rxl_isEmpty {s : State} (h : DeviceInv s) : s.rxl.isEmpty = true := by
  rw [h.rxl_constructed, construct_isEmpty]

theorem DeviceInv.clearRx {s : State} (h : DeviceInv s) : DeviceInv s.clearRx :=
  { h with
    rxd_constructed := h.rxd_clear.trans h.rxd_constructed
    rxl_constructed := h.rxl_clear.trans h.rxl_constructed }

/-- No access breaks the invariant: the RX rings are empty, and every register keeps its own bound. -/
theorem Acts.keeps_deviceInv {i : Instr} {s u : State} {r : Reply} (hacts : Acts s i u r) (h : DeviceInv s) :
    DeviceInv u := by
  cases hacts with
  | plain => exact h
  | undefined => exact h.of_status (fun _ => .inl) rfl
  | mdioCtrl => exact { h with host_flag1 := by rw [BitVec.getLsbD_or, h.host_flag1]; rfl }
  | mdioData | irqMask => exact { h with }
  | irqFlags =>
    exact { h with host_flag1 := Bool.eq_false_iff.mpr fun hset =>
              Bool.eq_false_iff.mp h.host_flag1 (getLsbD_of_w1c hset) }
  | vlanMask => exact { h with vlan_zero := fun hno => by simp [hno, h.vlan_zero hno] }
  | intStatus => exact h.of_status (fun _ hk => .inl (getLsbD_of_w1c hk)) rfl
  | intEnable => exact { h with enable_bits := by simp [fifoBitsOperand, BitVec.and_assoc] }
  | txResetMagic => exact h.clearTx.shadow2 _
  | txResetOther v => exact h.shadow2 v
  | txDataOverflow => exact h.raise mTpoe_in_statusBits
  | txDataPushed => exact h.of_status (fun _ => .inl) rfl
  | txLengthOverflow v => exact (h.raise mTpoe_in_statusBits).shadow5 v rfl
  | txLengthAccepted v =>
    have hpushed : DeviceInv { s with txl := s.txl.push v } := h.of_status (fun _ => .inl) rfl
    exact (hpushed.afterRun _ _ _).shadow5 v rfl
  | rxResetMagic => exact h.clearRx.shadow6 _
  | rxResetOther v => exact h.shadow6 v
  | rxDataUnderflow | rxLengthUnderflow => exact h.raise mRpure_in_statusBits
  | rxDataPopped hne => exact nomatch h.rxd_isEmpty.symm.trans hne
  | rxLengthPopped hne => exact nomatch h.rxl_isEmpty.symm.trans hne

/-- Settles O46: idle, or one access and its reply. -/
theorem stepKeepsDeviceInvariant : Obligations.StepKeepsDeviceInvariant := by
  intro s t h hstep
  rcases step_cases s with ⟨_, hidle⟩ | ⟨_, _, _, _, _, href⟩ | ⟨r, tail, i, _, _, hexec⟩
  · obtain rfl := Host.Outcome.next.inj (hidle.symm.trans hstep)
    exact h
  · exact nomatch href.symm.trans hstep
  · obtain ⟨u, r, hacts, rfl⟩ := acts_of_exec (hexec.symm.trans hstep)
    have hu : DeviceInv u := hacts.keeps_deviceInv { h with }
    exact { hu with }

/-- Settles O47: every register is 0 and the RX rings are the constructed ones. -/
theorem resetMeetsDeviceInvariant : Obligations.ResetMeetsDeviceInvariant where
  status_bits := BitVec.zero_and
  enable_bits := BitVec.zero_and
  host_flag1 := rfl
  shadow4_zero := rfl
  shadows_zero := fun _ => ⟨rfl, rfl, rfl⟩
  vlan_zero := fun _ => rfl
  rxd_constructed := rfl
  rxl_constructed := rfl

theorem construct_mem (N : Nat) (hN : 0 < N) (init : Nat → Word) (k : Nat) (hk : k < N) :
    (RingBuffer.construct N hN init).mem[k] = init k := by
  simp [RingBuffer.construct]

/-- Settles O48: register by register, and the storage position by position. -/
theorem constructionState : Obligations.ConstructionState :=
  ⟨⟨rfl, rfl, rfl, rfl, rfl, rfl, rfl, rfl, rfl, rfl, rfl⟩, ⟨rfl, rfl, rfl, rfl, rfl, rfl, rfl, rfl⟩,
    fun k hk => ⟨construct_mem _ _ _ k hk, construct_mem _ _ _ k hk⟩,
    fun k hk => ⟨construct_mem _ _ _ k hk, construct_mem _ _ _ k hk⟩, rfl, rfl, rfl, rfl⟩

theorem exec_wrFifoIntStatus (v : Word) (s : State) :
    exec (.wrFifoIntStatus v) s = .next
      { s with
        fifoStatus := w1c s.fifoStatus (fifoBitsOperand cfg v)
        replies := s.replies ++ [.nothing] } := rfl

/-- Of the status bits, the clear keeps those not written 1 inside the field (R90). -/
theorem w1c_fifoBitsOperand_iff (status v : Word) {k : Nat} (hk : k < 32) :
    (w1c status (fifoBitsOperand cfg v)).getLsbD k = true ↔
      status.getLsbD k = true ∧ ¬ (v.getLsbD k = true ∧ cfg.fifoIntField.getLsbD k = true) := by
  rw [w1c_getLsbD _ _ k hk, fifoBitsOperand_getLsbD, Bool.and_eq_true, Bool.not_eq_true', ← Bool.not_eq_true,
    Bool.and_eq_true]

/-- Settles O19: the cleared register bit by bit, and the line by its enabled bits. -/
theorem fifoStatusWriteOneToClear : Obligations.FifoStatusWriteOneToClear := fun v s =>
  ⟨decode_wrFifoIntStatus v, _, exec_wrFifoIntStatus v s, rfl, fun _ hk => w1c_fifoBitsOperand_iff _ v hk,
    irqFifo_iff _⟩

/-- R7: the three status bits lie inside the field. -/
theorem statusBits_in_field {k : Nat} (h : k = cfg.bitTpoe.val ∨ k = cfg.bitRpure.val ∨ k = cfg.bitTc.val) :
    cfg.fifoIntField.getLsbD k = true := by
  obtain ⟨hrpure, htpoe, htc⟩ := cfg.bits_in_field
  rcases h with rfl | rfl | rfl
  · exact htpoe
  · exact hrpure
  · exact htc

/-- Writing ones clears every bit the status register can hold (R90). -/
theorem DeviceInv.w1c_ones {s : State} (h : DeviceInv s) :
    w1c s.fifoStatus (fifoBitsOperand cfg 0xFFFFFFFF#32) = 0 := by
  refine BitVec.eq_of_getLsbD_eq fun k hk => ?_
  rw [w1c_getLsbD _ _ _ hk, fifoBitsOperand_getLsbD]
  cases hset : s.fifoStatus.getLsbD k with
  | false => simp
  | true =>
    have hone : (BitVec.allOnes 32).getLsbD k = true := by rw [BitVec.getLsbD_allOnes, decide_eq_true hk]
    rw [statusBits_in_field (h.status_bit hset), show 0xFFFFFFFF#32 = BitVec.allOnes 32 from rfl, hone]
    simp

theorem w1c_hostClearOperand_three (flags : BitVec 2) : w1c flags (hostClearOperand 3) = 0 := by
  revert flags
  decide

/-- Settles O57: with no status bit, or no enable bit, no bit is common to both. -/
theorem clearOrDisableDeassertsLine : Obligations.ClearOrDisableDeassertsLine := by
  refine fun s h => ⟨⟨_, exec_wrFifoIntStatus _ s, ?_, h.w1c_ones⟩, ⟨_, exec_wrFifoIntEnable 0 s, ?_, rfl⟩,
    ⟨_, exec_wrHostIrqFlags 3 s, ?_, w1c_hostClearOperand_three _⟩, ⟨_, exec_wrHostIrqMask 0 s, ?_, rfl⟩⟩
  · simp [irqFifo, h.w1c_ones]
  · simp [irqFifo, fifoBitsOperand]
  · simp only [irqHost, w1c_hostClearOperand_three]
    simp
  · simp [irqHost]

/-- Settles O18: both reads return their word, and the invariant bounds it bit by bit. -/
theorem fifoStatusAndEnableReads : Obligations.FifoStatusAndEnableReads :=
  ⟨⟨decode_rdFifoIntStatus, decode_rdFifoIntEnable⟩, fun s => ⟨completeRead_next _ s, completeRead_next _ s⟩,
    fun _ h _ => ⟨h.status_bit, h.enable_bit⟩⟩

end Sys2Proof.Machine
end

section
/-! The step on one request (R41, R47), the accesses whose next state is a single equation (R78, R86, R93 to
R107), the pseudo-instructions (R55), and the obligations on them. -/

namespace Sys2Proof.Machine

open Sys2Proof.Laws

/-- Settles O6: one step is the fetch and then `exec`. -/
theorem stepRunsDecodedInstruction : Obligations.StepRunsDecodedInstruction :=
  ⟨fun _ _ _ _ => step_eq_exec_of_decoded, fun _ => step_of_nothing_presented⟩

/-- A request the decoder refuses is refused under the same reason. -/
theorem step_of_refused {s : State} {r : Request} {rest : List Request} {why : Reject}
    (hinbox : s.inbox = r :: rest) (hdecode : decodeRequest cfg.base r = .error why) :
    step s = .refused (refusalOf why) := by
  simp only [step, fetch, hinbox, hdecode]

/-- Settles O7: reason by reason. -/
theorem stepRefusesInadmissibleRequest : Obligations.StepRefusesInadmissibleRequest := fun _ _ _ hinbox =>
  ⟨step_of_refused hinbox, step_of_refused hinbox, step_of_refused hinbox, step_of_refused hinbox,
    step_of_refused hinbox⟩

/-- Without VLAN_WRITE_STORES the invariant fixes the VLAN mask, so what is read is named by the parameter. -/
theorem DeviceInv.vlanMask_eq {s : State} (h : DeviceInv s) :
    s.vlanMask = if cfg.vlanWriteStores then s.vlanMask else 0 := by
  cases hstores : cfg.vlanWriteStores with
  | true => rfl
  | false => exact h.vlan_zero hstores

/-- Settles O13: the read of the stored word, and the write by its meaning. -/
theorem vlanMaskReadAndWrite : Obligations.VlanMaskReadAndWrite :=
  ⟨decode_rdHostVlanMask, decode_wrHostVlanMask, fun s => completeRead_next s.vlanMask s,
    fun _ _ => completeWrite_next _, fun s h => by rw [← h.vlanMask_eq]; exact completeRead_next s.vlanMask s⟩

/-- Settles O17: each row's word decodes to it, and its meaning is the access to its undefined slot. -/
theorem macUndefinedSlots : Obligations.MacUndefinedSlots := by
  refine ⟨fun row hrow => ?_, fun row hrow v => ?_⟩
  · simp only [List.mem_cons, List.not_mem_nil, or_false] at hrow
    rcases hrow with rfl | rfl | rfl | rfl | rfl | rfl | rfl | rfl | rfl | rfl | rfl | rfl <;>
      exact ⟨by simp, exec_of_readUnknown fun _ => rfl⟩
  · simp only [List.mem_cons, List.not_mem_nil, or_false] at hrow
    rcases hrow with rfl | rfl | rfl | rfl | rfl | rfl | rfl | rfl | rfl | rfl | rfl | rfl <;>
      exact ⟨by simp, exec_of_writeUnknown (v := v) fun _ => rfl⟩

/-- Under the invariant a shadow word that no write tracks is 0. -/
theorem eq_ite_of_untracked {w : Word} (h : cfg.shadowTracksWrites = false → w = 0) :
    w = if cfg.shadowTracksWrites then w else 0 := by
  cases htracks : cfg.shadowTracksWrites with
  | true => rfl
  | false => exact h htracks

/-- Settles O21: each read completes with its shadow word, which the invariant fixes where nothing tracks it. -/
theorem shadowReads : Obligations.ShadowReads := by
  refine ⟨⟨decode_rdFifoTxReset, decode_rdFifoTxData, decode_rdFifoTxLength, decode_rdFifoRxReset⟩,
    fun s => ⟨completeRead_next _ s, completeRead_next _ s, completeRead_next _ s, completeRead_next _ s⟩,
    fun s h => ?_, fun s h => ⟨?_, ?_, ?_⟩⟩
  · rw [← h.shadow4_zero]
    exact completeRead_next s.shadow4 s
  · rw [← eq_ite_of_untracked fun hno => (h.shadows_zero hno).1]
    exact completeRead_next s.shadow2 s
  · rw [← eq_ite_of_untracked fun hno => (h.shadows_zero hno).2.1]
    exact completeRead_next s.shadow5 s
  · rw [← eq_ite_of_untracked fun hno => (h.shadows_zero hno).2.2]
    exact completeRead_next s.shadow6 s

/-- Settles O22: the next state of the write. -/
theorem txResetWrite : Obligations.TxResetWrite := fun v s =>
  ⟨decode_wrFifoTxReset v, exec_wrFifoTxReset v s⟩

/-- Settles O23: the next state of the write, whose clear leaves the invariant's RX rings as they are. -/
theorem rxResetWrite : Obligations.RxResetWrite := by
  refine fun v s => ⟨decode_wrFifoRxReset v, _, rfl, exec_wrFifoRxReset v s, fun h => ⟨?_, ?_⟩⟩
  · exact (ite_congr rfl (fun _ => h.rxd_clear) fun _ => rfl).trans (ite_self _)
  · exact (ite_congr rfl (fun _ => h.rxl_clear) fun _ => rfl).trans (ite_self _)

/-- Settles O28: the occupancy, which fits a word, and is 0 of the invariant's empty ring. -/
theorem rxOccupancyRead : Obligations.RxOccupancyRead := by
  refine ⟨decode_rdFifoRxOccupancy, fun s => ⟨_, completeRead_next _ s, ?_⟩, fun s h => ?_⟩
  · have hlt := s.rxd.occ_lt
    rw [countResult_toNat (by omega)]
    exact (ringOccupancyTests 512 s.rxd).1
  · exact congrArg (fun n => completeRead (countResult n) s) (s.rxd.occ_eq_zero_iff.mpr h.rxd_isEmpty)

theorem exec_rdFifoRxData (s : State) :
    exec .rdFifoRxData s = .next
      { s with
        fifoStatus := if s.rxd.pushIdx = s.rxd.popIdx then s.fifoStatus ||| mRpure cfg else s.fifoStatus
        rxd := if s.rxd.pushIdx = s.rxd.popIdx then s.rxd
          else { s.rxd with popIdx := Fin.ofNat 512 (s.rxd.popIdx.val + 1) }
        replies := s.replies ++ [.value s.rxd.mem[s.rxd.popIdx.val]] } := by
  by_cases hempty : s.rxd.pushIdx = s.rxd.popIdx
  · rw [exec_rdFifoRxData_of_empty (s.rxd.isEmpty_iff_eq.mpr hempty)]
    simp only [hempty, if_true]
  · have hne : s.rxd.isEmpty = false := Bool.eq_false_iff.mpr (mt s.rxd.isEmpty_iff_eq.mp hempty)
    simp only [exec, execRdFifoRxData, popRxData, RingBuffer.pop_wasEmpty, hne, hempty, if_false,
      s.rxd.pop_ring_of_nonempty hne]
    rfl

theorem exec_rdFifoRxLength (s : State) :
    exec .rdFifoRxLength s = .next
      { s with
        fifoStatus := if s.rxl.pushIdx = s.rxl.popIdx then s.fifoStatus ||| mRpure cfg else s.fifoStatus
        rxl := if s.rxl.pushIdx = s.rxl.popIdx then s.rxl
          else { s.rxl with popIdx := Fin.ofNat 16 (s.rxl.popIdx.val + 1) }
        replies := s.replies ++ [.value s.rxl.mem[s.rxl.popIdx.val]] } := by
  by_cases hempty : s.rxl.pushIdx = s.rxl.popIdx
  · rw [exec_rdFifoRxLength_of_empty (s.rxl.isEmpty_iff_eq.mpr hempty)]
    simp only [hempty, if_true]
  · have hne : s.rxl.isEmpty = false := Bool.eq_false_iff.mpr (mt s.rxl.isEmpty_iff_eq.mp hempty)
    simp only [exec, execRdFifoRxLength, popRxLength, RingBuffer.pop_wasEmpty, hne, hempty, if_false,
      s.rxl.pop_ring_of_nonempty hne]
    rfl

/-- The stale word of a constructed ring is its first word. -/
theorem construct_peek (N : Nat) (hN : 0 < N) (init : Nat → Word) :
    (RingBuffer.construct N hN init).peek = init 0 :=
  construct_mem N hN init 0 hN

/-- Settles O29: a pop splits on whether the indices agree, and under the invariant they do. -/
theorem rxPopReads : Obligations.RxPopReads := by
  refine ⟨⟨decode_rdFifoRxData, decode_rdFifoRxLength⟩,
    fun s => ⟨exec_rdFifoRxData s, exec_rdFifoRxLength s⟩, fun s h => ⟨?_, ?_⟩⟩
  · have hword : s.rxd.peek = cfg.rxdInit 0 := by rw [h.rxd_constructed, construct_peek]
    rw [← hword]
    exact exec_rdFifoRxData_of_empty h.rxd_isEmpty
  · have hword : s.rxl.peek = cfg.rxlInit 0 := by rw [h.rxl_constructed, construct_peek]
    rw [← hword]
    exact exec_rdFifoRxLength_of_empty h.rxl_isEmpty

/-- The fields of an MDIO control word do not overlap, so the word is their sum (R49, R55). -/
theorem mdioControlWord_eq {select : Nat} (hselect : select < 2) (phy reg : BitVec 5) :
    mdioControlWord (BitVec.ofNat 32 (select * 0x400)) phy reg =
      BitVec.ofNat 32 (select * 0x400 + 32 * phy.toNat + reg.toNat) := by
  have hphy := phy.isLt
  have hreg := reg.isLt
  have hselphy : select * 0x400 ||| phy.toNat * 0x20 = (select * 0x20 + phy.toNat) * 0x20 := by
    have h := Nat.shiftLeft_add_eq_or_of_lt (show phy.toNat * 0x20 < 2 ^ 10 by omega) select
    rw [Nat.shiftLeft_eq] at h
    exact h.symm.trans (by omega)
  have hsum : (select * 0x20 + phy.toNat) * 0x20 ||| reg.toNat =
      (select * 0x20 + phy.toNat) * 0x20 + reg.toNat := by
    have h := Nat.shiftLeft_add_eq_or_of_lt (show reg.toNat < 2 ^ 5 from hreg) (select * 0x20 + phy.toNat)
    rw [Nat.shiftLeft_eq] at h
    exact h.symm
  refine BitVec.eq_of_toNat_eq ?_
  simp only [mdioControlWord, BitVec.toNat_or, BitVec.toNat_shiftLeft, BitVec.toNat_setWidth, BitVec.toNat_ofNat,
    Nat.shiftLeft_eq]
  rw [Nat.mod_eq_of_lt (a := select * 0x400) (by omega), Nat.mod_eq_of_lt (a := phy.toNat) (by omega),
    Nat.mod_eq_of_lt (a := phy.toNat * 2 ^ 5) (by omega), Nat.mod_eq_of_lt (a := reg.toNat) (by omega)]
  rw [show 2 ^ 5 = 0x20 from rfl, hselphy, hsum]
  omega

/-- Settles O44: each descriptor is its row's, and the control word is the sum of its fields. -/
theorem pseudoInstructionsExpand : Obligations.PseudoInstructionsExpand := by
  refine ⟨rfl, rfl, fun _ => rfl, fun _ => rfl, fun phy reg => ?_, fun phy reg d => ?_, fun len words => rfl⟩
  · have hword := mdioControlWord_eq Nat.one_lt_two phy reg
    rw [Nat.one_mul] at hword
    rw [← hword]
    rfl
  · have hword := mdioControlWord_eq Nat.two_pos phy reg
    rw [Nat.zero_mul, Nat.zero_add] at hword
    rw [← hword]
    rfl

end Sys2Proof.Machine
end
